-- ==== Sys2Proof/Word.lean ====
section
/-! DEFINITION. The word types of the HN5312: octets of the line, line times and local counts (48 bits, R45, R46),
slot numbers (32 bits, R47), tags and sequence numbers (16 bits), pulse widths (24 bits, R132). -/

namespace Sys2Proof

/-- One octet of a frame. -/
abbrev Octet := BitVec 8
/-- A count of ticks of the local counter, or a line time, modulo 2^48 (R45, R46). -/
abbrev Ticks := BitVec 48
/-- A slot number, modulo 2^32 (R47). -/
abbrev SlotNo := BitVec 32
/-- A Tag, a Seq of the Capture Ring, a CONFIG value: two octets. -/
abbrev Half := BitVec 16
/-- A pulse width or MaxPulse: three octets. -/
abbrev Width := BitVec 24

end Sys2Proof
end

