-- ==== Sys2Proof/Config.lean ====
section
/-! DEFINITION. What the part fixes once (the capacities of its stores) and the one value the manual leaves open. -/

namespace Sys2Proof

/-- Buffers of the Frame Buffer Pool (R16). -/
abbrev Config.buffers : Nat := 16
/-- Octets one buffer can store (R8). -/
abbrev Config.bufferOctets : Nat := 249
/-- Records of the Action Pool (R68). -/
abbrev Config.records : Nat := 512
/-- Places of one slot list (R70). -/
abbrev Config.listPlaces : Nat := 32
/-- Places of the Reply Queue (R37). -/
abbrev Config.replyPlaces : Nat := 8
/-- Places of the Capture Ring (R146). -/
abbrev Config.ringPlaces : Nat := 64
/-- Places of the Notice Queue (R168). -/
abbrev Config.noticePlaces : Nat := 32
/-- Notices one NOTICE frame carries at most (R174). -/
abbrev Config.noticesPerFrame : Nat := 12

/-- FREE VALUE (log 9). R40: a forwarded frame and a reply descriptor that reach an IDLE transmitter together are
taken in either order. The answer for the n-th such choice: `true` takes the reply first. No body, so no proof can
rest on a value of it. Safe. -/
opaque Config.idleReplyFirst : Nat → Bool

end Sys2Proof
end

