-- ==== Sys2Proof/Syntax.lean ====
section
/-! DEFINITION. The commands of the block: one constructor for each row of spec/opcode_table.json, with its operands.
A request row carries the header octets of the frame it came in (R37: the reply is built from them). -/

namespace Sys2Proof

/-- A character as its positions 2 to 12 were sampled (R2): the octet of D0-D7, the kind bit, the parity bit, and
the stop bit. -/
structure RawChar where
  octet  : Octet
  kind   : Bool
  parity : Bool
  stop   : Bool
deriving DecidableEq, Repr

/-- The header octets of a request frame that its reply is built from (R37). -/
structure ReqHeader where
  dest : Octet
  src  : Octet
  seq  : Octet
deriving DecidableEq, Repr

/-- One 16-octet descriptor of a SCHEDULE payload (section 11.3). -/
structure Descriptor where
  channel   : Octet
  action    : Octet
  modeFlags : Octet
  period    : Octet
  target    : BitVec 32
  width     : BitVec 32
  tag       : Half
  count     : Half
deriving DecidableEq, Repr

/-- A written ADDRESS value (section 11.5). -/
structure AddressValue where
  address : Octet
  mask    : Half
  flags   : Octet
deriving DecidableEq, Repr

/-- A written CHANNEL value (section 11.5). -/
structure ChannelValue where
  flags      : Octet
  safeLevel  : Octet
  actionMask : Octet
  maxPulse   : Width
deriving DecidableEq, Repr

/-- A written TRIGGER value (section 11.5). -/
structure TriggerValue where
  flags   : Octet
  line    : Octet
  edge    : Octet
  channel : Octet
  action  : Octet
  width   : Width
  delay   : Octet
deriving DecidableEq, Repr

/-- A written CAPTURE_CONFIG value (section 11.5). -/
structure CaptureValue where
  enable     : Octet
  edges      : Vector Octet 8
  filterTime : Octet
deriving DecidableEq, Repr

/-- The commands. -/
inductive Instr where
  /-- RESET_N is held low, or power-on is in progress (R195). -/
  | resetNLow
  /-- RESET_N is released, or power-on completes, with ADR0-ADR3 and C0-C7 at these levels (R195, R22, R142). -/
  | resetRelease (straps : BitVec 4) (inputs : BitVec 8)
  /-- LIN has been at 1 for one character-time (R5). -/
  | settlingEnd
  /-- LIN has stayed at 0 for 24 bit-times (R3). -/
  | lineBreak
  /-- A good FS completes (R6). -/
  | fs
  /-- A data character completes (R8). -/
  | dataCharacter (octet : Octet)
  /-- An error character or stray control character completes (R9); R2 and R3 class it from its sampled bits. -/
  | errorCharacter (char : RawChar)
  /-- A good FE completes (R12). -/
  | fe
  /-- A broadcast SYNC is taken by the Time Base (R51). -/
  | sync (src : Octet) (arrival : Ticks) (payload : List Octet)
  /-- The SyncTimeout timer expires (R58). -/
  | syncTimeoutExpiry
  /-- The holdover timer expires (R59). -/
  | holdoverExpiry
  /-- Line time has passed into a new slot (R48). -/
  | slotBoundary
  /-- The local count has reached a channel's PulseEnd (R133). -/
  | pulseExpiry (channel : Fin 16)
  /-- The filter of a line samples this level (R142). -/
  | captureInputChange (line : Fin 8) (level : Bool)
  /-- A filter candidate has held for its duration (R145). -/
  | qualifiedEdge (line : Fin 8)
  /-- A SCHEDULE request with its frame's arrival line time, RequestFlags and descriptors (R80). -/
  | schedule (h : ReqHeader) (arrival : Ticks) (flags : Octet) (descriptors : List Descriptor)
  /-- A CANCEL request (R97). -/
  | cancel (h : ReqHeader) (selector : Octet) (tag : Half) (channel : Octet)
  /-- A POLL request (R149). -/
  | poll (h : ReqHeader) (ackValid : Octet) (ackSeq : Half) (maxCount : Octet)
  /-- A READ request (R179). -/
  | read (h : ReqHeader) (object : Octet) (index : Octet)
  /-- A WRITE request naming an object with no write behaviour of its own (R182). -/
  | write (h : ReqHeader) (object : Octet) (index : Octet) (value : List Octet)
  /-- A WRITE of a CONFIG field (R186). -/
  | writeConfig (h : ReqHeader) (index : Octet) (value : Half)
  /-- A WRITE of SlotExp (R50). -/
  | writeSlotExp (h : ReqHeader) (value : Half)
  /-- A WRITE of LineErrorLimit (R19). -/
  | writeLineErrorLimit (h : ReqHeader) (value : Half)
  /-- A WRITE of an ADDRESS entry (R184). -/
  | writeAddress (h : ReqHeader) (index : Fin 8) (value : AddressValue)
  /-- A WRITE of a CHANNEL entry (R138). -/
  | writeChannel (h : ReqHeader) (index : Fin 16) (value : ChannelValue)
  /-- A WRITE of a TRIGGER entry (R154). -/
  | writeTrigger (h : ReqHeader) (index : Fin 8) (value : TriggerValue)
  /-- A WRITE of CAPTURE_CONFIG (R141). -/
  | writeCaptureConfig (h : ReqHeader) (value : CaptureValue)
  /-- A WRITE of FAULT: an acknowledgement (R166). -/
  | writeFault (h : ReqHeader) (mask : Octet)
  /-- CONTROL START, unicast or broadcast by its Dest (R103, R189). -/
  | start (h : ReqHeader)
  /-- CONTROL HALT (R104). -/
  | halt (h : ReqHeader)
  /-- CONTROL RESUME (R105). -/
  | resume (h : ReqHeader)
  /-- CONTROL SAFE (R106). -/
  | safe (h : ReqHeader)
  /-- CONTROL CLEAR_WHEEL (R108). -/
  | clearWheel (h : ReqHeader)
  /-- CONTROL RESTART, with the Hops its frame arrived with (R190, R39). -/
  | restart (h : ReqHeader) (hops : Octet)
  /-- The pending RESTART takes effect (R192). -/
  | restartEffect
  /-- CONTROL CLAIM (R177). -/
  | claim (h : ReqHeader)
  /-- CONTROL RELEASE (R178). -/
  | release (h : ReqHeader)
  /-- The Notice Unit places a NOTICE descriptor (R38). -/
  | noticeDescriptorPlace
  /-- The transmitter has sent an FE (R40). -/
  | feSent
  /-- The gap ends and the arbiter chooses (R41). -/
  | gapEnd
  /-- LIN returns to 1 after a recognised break (R3). -/
  | breakEnd
  /-- LIN goes to 0 while the receiver is SETTLING, and returns to 1 after this many ticks (R5). -/
  | settlingWaitRestart (lowTicks : Ticks)
  /-- One tick of the oscillator's divider (R45). -/
  | tick
deriving DecidableEq, Repr

end Sys2Proof
end

