-- ==== Sys2Proof/Machine/State.lean ====
section
/-! DEFINITION. The state of the HN5312, block by block, as INVENTORY.md lists it, with the values after power-on and
pin reset, and the reasons a command could stop (there is none). -/

namespace Sys2Proof.Machine

/-! ## Names -/

/-- The line rates of R4. -/
inductive LineRate where
  | mbit1 | mbit2 | mbit4 | mbit8
deriving DecidableEq, Repr

/-- The last discard reason and the reason recorded in ERRORED (R21). -/
inductive DiscardReason where
  | none | noBuffer | brk | framing | parity | strayControl | truncated | overlength | short | lengthMismatch | crc
deriving DecidableEq, Repr

/-- The eight fault kinds (R160), in the order of their codes. -/
inductive FaultKind where
  | lineErrors | rxOverrun | syncJump | syncLost | actionsExpired | repeatDropped | triggerMissed | noticeOverflow
deriving DecidableEq, Repr

/-- The Response of a fault kind (R162). -/
inductive Response where
  | note | freeze
deriving DecidableEq, Repr

/-- The sync state (section 3.4). -/
inductive SyncState where
  | unsynced | acquiring | locked | holdover
deriving DecidableEq, Repr

/-- The scheduler state (R102). -/
inductive SchedState where
  | halted | running | frozen
deriving DecidableEq, Repr

/-- The four actions as codes name them (section 11.3). -/
inductive ActionKind where
  | set | clear | toggle | pulse
deriving DecidableEq, Repr

/-- An action as a record holds it: Width is present for a PULSE only (R64). -/
inductive ChannelAction where
  | set | clear | toggle
  | pulse (width : Width)
deriving DecidableEq, Repr

/-- The time mode of a descriptor (R82 to R84). -/
inductive TimeMode where
  | abs | ref | arrival
deriving DecidableEq, Repr

/-- Where a record came from: a SCHEDULE request of this Requester, or a trigger (R64). -/
inductive Origin where
  | line (requester : Octet)
  | trigger (index : Fin 8)
deriving DecidableEq, Repr

/-- The firings still to come (R65). -/
inductive Remaining where
  | times (n : Nat)
  | unlimited
deriving DecidableEq, Repr

/-- What became of one firing or removal of a record (R113). -/
inductive ActionOutcome where
  | done | late | suppressed | disabled | expired | dropped | cancelled
deriving DecidableEq, Repr

/-- A channel's SafeLevel (R136). -/
inductive SafeLevel where
  | inactive | active | hold
deriving DecidableEq, Repr

/-- The direction of a qualified edge (R145). -/
inductive Edge where
  | rising | falling
deriving DecidableEq, Repr

/-- The Edge field of a capture line or a trigger entry. -/
inductive EdgeSelect where
  | rising | falling | both
deriving DecidableEq, Repr

/-- The result codes of a SCHEDULE descriptor (R95). -/
inductive DescResult where
  | accepted | halted | noChannel | notPermitted | channelDisabled | actionRefused | widthRange | badRepeat
  | noTime | noReference | tooEarly | tooLate | poolEmpty | slotFull | withdrawn | notAttempted
deriving DecidableEq, Repr

/-- The result codes of management (section 11.4). -/
inductive MgmtResult where
  | ok | noObject | readOnly | range | state | duplicate | lockout
deriving DecidableEq, Repr

/-! ## The blocks -/

/-- A frame of the line: header octets and payload. Its Length octet is the payload's octet count (R12 has checked
it), and its CRC is formed afresh at each transmission (R43), so neither is held. -/
structure Frame where
  dest    : Octet
  src     : Octet
  kind    : Octet
  seq     : Octet
  hops    : Octet
  mark    : Octet
  payload : List Octet
deriving DecidableEq, Repr

/-- The frame being assembled (section 1.3): the stored octets, the arrival line time, and the offset in force at the
arrival, on which R44 re-expresses the arrival. -/
structure Assembly where
  octets        : List Octet
  arrival       : Ticks
  arrivalOffset : Ticks
deriving DecidableEq, Repr

/-- The states of frame assembly (section 1.3). A buffer is held exactly in ASSEMBLING and ERRORED. -/
inductive RxState where
  /-- SETTLING; LIN has been at 1 since this instant of the local count. -/
  | settling (idleSince : Ticks)
  | hunting
  | assembling (a : Assembly)
  | errored (a : Assembly) (why : DiscardReason)
  | skipping
deriving DecidableEq, Repr

/-- The Line Receiver and the free set of the Frame Buffer Pool (chapter 1). -/
structure Receiver where
  state       : RxState
  /-- The consecutive bad frame count, 0 to 255 (R19). -/
  badCount    : Nat
  lastDiscard : DiscardReason
  /-- A recognised break that has not ended (R3); the frame assembly stands in HUNTING meanwhile (log 29),
  or in SETTLING when a RESTART has taken effect within the break (log 17). -/
  inBreak     : Bool
  /-- How many buffers are free (R16). -/
  freeBuffers : Nat
deriving DecidableEq, Repr

/-- A buffer of the Forward Queue (R36). -/
structure Forwarded where
  frame         : Frame
  arrival       : Ticks
  arrivalOffset : Ticks
  restartMark   : Bool
deriving DecidableEq, Repr

/-- The kind of a frame the node originates (R37). -/
inductive ReplyKind where
  | reply | report | notice
deriving DecidableEq, Repr

/-- The body of a reply descriptor (R37): fixed when taken; a READ's result code, object and index; a REPORT's
MaxCount; a NOTICE's, empty until transmit start. -/
inductive ReplyBody where
  | fixed (octets : List Octet)
  | read (result : MgmtResult) (object : Octet) (index : Octet)
  | report (maxCount : Octet)
  | notice
deriving DecidableEq, Repr

/-- A reply descriptor (R37). `restartReply` tells a RESTART reply, which R39 places at the head and R41 takes first. -/
structure ReplyDesc where
  kind         : ReplyKind
  dest         : Octet
  src          : Octet
  seq          : Octet
  body         : ReplyBody
  restartMark  : Bool
  restartReply : Bool
deriving DecidableEq, Repr

/-- The transmitter (R40). While sending, the octets between FS and FE, fixed at transmit start, and the instant at
which FE will have been sent; in the gap, the instant at which it ends. -/
inductive Transmitter where
  | idle
  /-- Sending the frame at the head of the Forward Queue. -/
  | sendingForward (octets : List Octet) (doneAt : Ticks)
  /-- Sending a frame of the node's own, which may carry the restart mark (R39). -/
  | sendingReply (octets : List Octet) (doneAt : Ticks) (restartMark : Bool)
  | gap (endsAt : Ticks)
deriving DecidableEq, Repr

/-- The Output Port (chapter 2). -/
structure OutputPort where
  forward   : List Forwarded
  replies   : List ReplyDesc
  /-- The reply credit, 0 to 8 (R41). -/
  credit    : Nat
  /-- The notice sequence count (R38). -/
  noticeSeq : Octet
  tx        : Transmitter
deriving DecidableEq, Repr

/-- The Time Base (section 3.1). -/
structure TimeBase where
  localCount    : Ticks
  offset        : Ticks
  sync          : SyncState
  /-- The count of consecutive outliers, 0 to 2 (R56). -/
  outliers      : Nat
  /-- The reference instant; none while invalid (R60). -/
  reference     : Option Ticks
  /-- The expiry instant of the SyncTimeout timer; none while stopped (R58). -/
  syncTimer     : Option Ticks
  /-- The expiry instant of the holdover timer; none while stopped (R59). -/
  holdoverTimer : Option Ticks
deriving DecidableEq, Repr

/-- A linked action record (R64), with its place in the pool (R68). -/
structure ActionRecord where
  id        : Nat
  due       : SlotNo
  channel   : Fin 16
  action    : ChannelAction
  tag       : Half
  origin    : Origin
  /-- 1 to 255 slots; none for a record admitted as a single shot. -/
  period    : Option Octet
  remaining : Remaining
  /-- 0 to 65535. -/
  fired     : Nat
  report    : Bool
deriving DecidableEq, Repr

/-- The Scheduler with the Action Pool and the Release Wheel (chapters 4 to 6). -/
structure Scheduler where
  state   : SchedState
  /-- The current slot number: the number carried by the last slot event (R76). -/
  curSlot : SlotNo
  /-- The free list: numbers of the free records, the head first (R69). -/
  free    : List Nat
  /-- Every linked record, in link order. Slot list i is the sublist with Due congruent to i modulo 256 (R70). -/
  wheel   : List ActionRecord
deriving DecidableEq, Repr

/-- A Channel Table entry (R126). -/
structure ChannelEntry where
  enabled    : Bool
  invert     : Bool
  safeLevel  : SafeLevel
  /-- Bit 0 SET, bit 1 CLEAR, bit 2 TOGGLE, bit 3 PULSE. -/
  actionMask : BitVec 4
  maxPulse   : Width
deriving DecidableEq, Repr

/-- A channel's state (R127); `level` is true for ACTIVE. -/
structure ChannelState where
  level    : Bool
  pulseEnd : Option Ticks
  lastTag  : Option Half
deriving DecidableEq, Repr

/-- The Output Channels (chapter 7). -/
structure Outputs where
  table : Vector ChannelEntry 16
  chans : Vector ChannelState 16
deriving DecidableEq, Repr

/-- A filter candidate (R142). -/
structure Candidate where
  level    : Bool
  start    : Ticks
  duration : Ticks
deriving DecidableEq, Repr

/-- A capture line's filter (R142). -/
structure LineFilter where
  filtered  : Bool
  candidate : Option Candidate
deriving DecidableEq, Repr

/-- A record of the Capture Ring (section 8.3). -/
structure CaptureRecord where
  seq  : Half
  line : Fin 8
  edge : Edge
  time : Ticks
  sync : SyncState
  gap  : Bool
deriving DecidableEq, Repr

/-- A Trigger Table entry (R154). -/
structure TriggerEntry where
  enabled : Bool
  line    : Fin 8
  edge    : EdgeSelect
  channel : Fin 16
  action  : ActionKind
  width   : Width
  delay   : Octet
  oneShot : Bool
  report  : Bool
deriving DecidableEq, Repr

/-- The Capture Unit (chapter 8). -/
structure CaptureUnit where
  /-- CaptureEnable, one bit for each line (R141). -/
  enable     : BitVec 8
  edges      : Vector EdgeSelect 8
  /-- FilterTime in microseconds (R141). -/
  filterTime : Octet
  /-- The present levels of the pins C0 to C7. -/
  pins       : BitVec 8
  /-- The inputs have been sampled at the first tick after release (R142). -/
  sampled    : Bool
  lines      : Vector LineFilter 8
  ring       : List CaptureRecord
  nextSeq    : Half
  gapPending : Bool
  /-- HighestReported; none while invalid (R148). -/
  highest    : Option Half
  triggers   : Vector TriggerEntry 8
deriving DecidableEq, Repr

/-- The Fault Set (R160), one bit for each kind at its code. -/
structure FaultSet where
  latched : Octet
  active  : Octet
deriving DecidableEq, Repr

/-- What a notice tells (R168). -/
inductive NoticeBody where
  | completion (tag : Half) (channel : Fin 16) (outcome : ActionOutcome) (origin : Origin) (fired : Nat) (time : Ticks)
  | fault (kind : FaultKind) (time : Ticks)
deriving DecidableEq, Repr

/-- A notice of the Notice Queue (R168). -/
structure Notice where
  overflow : Bool
  body     : NoticeBody
deriving DecidableEq, Repr

/-- The Notice Queue and the flag of R173. -/
structure NoticeUnit where
  queue       : List Notice
  outstanding : Bool
deriving DecidableEq, Repr

/-- A non-EMPTY Address Table entry (R22). -/
structure Station where
  address : Octet
  mask    : BitVec 16
  sched   : Bool
  capt    : Bool
  mgmt    : Bool
deriving DecidableEq, Repr

/-- The CONFIG fields (R186). -/
structure ConfigFields where
  slotExp        : Nat
  lead           : Nat
  window         : Nat
  catchUpLimit   : Nat
  stepLimit      : Nat
  syncTimeout    : Nat
  holdoverLimit  : Nat
  linkDelay      : Nat
  /-- The staged rate (R4). -/
  lineRate       : LineRate
  arbiterRatio   : Nat
  lineErrorLimit : Nat
  replyHops      : Nat
  reportAddress  : Octet
  timeSource     : Octet
  reportAbnormal : Bool
  faultNotices   : Bool
  /-- The Response of each kind, at the kind's code. -/
  responses      : Vector Response 8
deriving DecidableEq, Repr

/-- The state of the part, and the model's queue of waiting commands. -/
structure State where
  /-- RESET_N is held low (R195). -/
  resetHeld : Bool
  /-- The line rate in force (R4). -/
  rate      : LineRate
  rx        : Receiver
  port      : OutputPort
  time      : TimeBase
  sched     : Scheduler
  out       : Outputs
  cap       : CaptureUnit
  faults    : FaultSet
  notices   : NoticeUnit
  /-- The Address Table; none is EMPTY (R22). -/
  addr      : Vector (Option Station) 8
  /-- 0xFF when unclaimed (R176). -/
  owner     : Octet
  cfg       : ConfigFields
  /-- The model's own counter of the free choices of R40 made so far (log 9). -/
  choices   : Nat
  /-- The model's queue of commands, first in first out. -/
  pending   : List Instr
deriving DecidableEq, Repr

/-- Why a command would stop the part with a fault. Nobody raises one: the spec gives every command an effect, and the
part's own eight fault kinds are effects on the Fault Set. Safe. -/
inductive Fault
deriving DecidableEq, Repr

/-- Why a command would have no meaning. -/
inductive Refusal where
  /-- A command whose meaning is not modelled: no arm of the dispatch answers it. Safe. -/
  | notModelled (mnemonic : String)
deriving DecidableEq, Repr

/-! ## Named updates: one for each block -/

def State.setResetHeld (s : State) (v : Bool) : State := { s with resetHeld := v }
def State.setRate (s : State) (v : LineRate) : State := { s with rate := v }
def State.setRx (s : State) (v : Receiver) : State := { s with rx := v }
def State.setPort (s : State) (v : OutputPort) : State := { s with port := v }
def State.setTime (s : State) (v : TimeBase) : State := { s with time := v }
def State.setSched (s : State) (v : Scheduler) : State := { s with sched := v }
def State.setOut (s : State) (v : Outputs) : State := { s with out := v }
def State.setCap (s : State) (v : CaptureUnit) : State := { s with cap := v }
def State.setFaults (s : State) (v : FaultSet) : State := { s with faults := v }
def State.setNotices (s : State) (v : NoticeUnit) : State := { s with notices := v }
def State.setAddr (s : State) (v : Vector (Option Station) 8) : State := { s with addr := v }
def State.setOwner (s : State) (v : Octet) : State := { s with owner := v }
def State.setCfg (s : State) (v : ConfigFields) : State := { s with cfg := v }
def State.setChoices (s : State) (v : Nat) : State := { s with choices := v }
def State.setPending (s : State) (v : List Instr) : State := { s with pending := v }

/-! ## Values after power-on and pin reset -/

/-- The CONFIG defaults of R186. -/
def ConfigFields.reset : ConfigFields where
  slotExp := 12
  lead := 2
  window := 200
  catchUpLimit := 4
  stepLimit := 400
  syncTimeout := 50
  holdoverLimit := 2000
  linkDelay := 0
  lineRate := .mbit2
  arbiterRatio := 4
  lineErrorLimit := 8
  replyHops := 32
  reportAddress := 0x00
  timeSource := 0x00
  reportAbnormal := true
  faultNotices := true
  responses := (Vector.replicate 8 Response.note).set 3 Response.freeze

/-- R21; the settling wait begins at the release, local count 0 (log 17). -/
def Receiver.reset : Receiver where
  state := .settling 0
  badCount := 0
  lastDiscard := .none
  inBreak := false
  freeBuffers := Config.buffers

/-- R36, R37, R38, R40, R41: queues empty, and a gap of 2 character-times at 2 Mbit/s, 48 ticks. -/
def OutputPort.reset : OutputPort where
  forward := []
  replies := []
  credit := 0
  noticeSeq := 0
  tx := .gap 48

/-- The table of section 3.1. -/
def TimeBase.reset : TimeBase where
  localCount := 0
  offset := 0
  sync := .unsynced
  outliers := 0
  reference := none
  syncTimer := none
  holdoverTimer := none

/-- R78, R102. All 512 records are free; their order on the free list, 0 to 511, is the model's choice (log 14). -/
def Scheduler.reset : Scheduler where
  state := .halted
  curSlot := 0
  free := List.range Config.records
  wheel := []

/-- The table of section 7.1. -/
def ChannelEntry.reset : ChannelEntry where
  enabled := false
  invert := false
  safeLevel := .inactive
  actionMask := 0b1111
  maxPulse := 40000

/-- R127. -/
def ChannelState.reset : ChannelState where
  level := false
  pulseEnd := none
  lastTag := none

/-- Chapter 7. -/
def Outputs.reset : Outputs where
  table := Vector.replicate 16 ChannelEntry.reset
  chans := Vector.replicate 16 ChannelState.reset

/-- The table of section 8.6. -/
def TriggerEntry.reset : TriggerEntry where
  enabled := false
  line := 0
  edge := .rising
  channel := 0
  action := .set
  width := 4000
  delay := 1
  oneShot := false
  report := false

/-- R153, with the inputs at these levels. The filtered levels are taken at the first tick (R142). -/
def CaptureUnit.reset (inputs : BitVec 8) : CaptureUnit where
  enable := 0
  edges := Vector.replicate 8 EdgeSelect.rising
  filterTime := 2
  pins := inputs
  sampled := false
  lines := Vector.ofFn fun n => { filtered := inputs.getLsbD n.val, candidate := none }
  ring := []
  nextSeq := 0
  gapPending := false
  highest := none
  triggers := Vector.replicate 8 TriggerEntry.reset

/-- R22: entry 0 is 0x10 plus the strap value with all channels and all flags; the others are EMPTY. -/
def addrReset (straps : BitVec 4) : Vector (Option Station) 8 :=
  (Vector.replicate 8 none).set 0
    (some { address := 0x10 + straps.setWidth 8, mask := 0xFFFF, sched := true, capt := true, mgmt := true })

/-- R195: every item of state at its value after power-on and pin reset, with these strap and input levels. -/
def State.released (straps : BitVec 4) (inputs : BitVec 8) : State where
  resetHeld := false
  rate := .mbit2
  rx := Receiver.reset
  port := OutputPort.reset
  time := TimeBase.reset
  sched := Scheduler.reset
  out := Outputs.reset
  cap := CaptureUnit.reset inputs
  faults := { latched := 0, active := 0 }
  notices := { queue := [], outstanding := false }
  addr := addrReset straps
  owner := 0xFF
  cfg := ConfigFields.reset
  choices := 0
  pending := []

/-- The part right after reset. The levels of the straps and of the inputs are the world's; here all are 0
(DESIGN CHOICE, log 1). -/
def State.reset : State := State.released 0 0

end Sys2Proof.Machine
end

