-- ==== Sys2Proof/Machine/Operands.lean ====
section
/-! DEFINITION. The operand forms: characters (section 1.1), the code tables of chapter 11, and the payloads of
requests as the node decodes them (R31, R198, R201). -/

namespace Sys2Proof.Machine

/-! ## Octets -/

/-- The `n` low octets of a value, high octet first. -/
def octetsOf {w : Nat} (n : Nat) (v : BitVec w) : List Octet :=
  (List.range n).map fun i => (v >>> (8 * (n - 1 - i))).setWidth 8

/-- A number as `n` octets, high octet first. -/
def octetsOfNat (n v : Nat) : List Octet := octetsOf n (BitVec.ofNat (8 * n) v)

/-- One octet from up to eight flags, bit 0 first. -/
def flagOctet (bits : List Bool) : Octet :=
  bits.foldr (fun b acc => (acc <<< 1) ||| (if b then 1 else 0)) 0

/-! ## Characters (R1 to R3, R40) -/

/-- What a completed character is (R2, R3). -/
inductive CharClass where
  | data (octet : Octet)
  | fs
  | fe
  | error (why : DiscardReason)
deriving DecidableEq, Repr

/-- R2: positions 2 to 11 hold an even number of ones. -/
def charParityRight (c : RawChar) : Bool :=
  !((List.range 8).foldl (fun b i => b != c.octet.getLsbD i) (c.kind != c.parity))

/-- R2 and R3: a zero stop bit is a FRAMING error whatever the rest; then parity; then the kind and the data value. -/
def charClassify (c : RawChar) : CharClass :=
  if !c.stop then .error .framing
  else if !charParityRight c then .error .parity
  else if !c.kind then .data c.octet
  else if c.octet = 0xA5 then .fs
  else if c.octet = 0x5A then .fe
  else .error .strayControl

/-- The character that a transmitter forms (R40, section 1.1): even parity, stop bit 1. -/
def charOfOctet (control : Bool) (octet : Octet) : RawChar :=
  { octet := octet, kind := control, stop := true,
    parity := (List.range 8).foldl (fun b i => b != octet.getLsbD i) control }

/-- The 12 bits of a character in the order of the line (section 1.1). -/
def charBits (c : RawChar) : List Bool :=
  false :: (List.range 8).map c.octet.getLsbD ++ [c.kind, c.parity, c.stop]

/-! ## Kinds, Marks and other codes (section 11.1 to 11.5) -/

abbrev kindSync : Octet := 0x01
abbrev kindSchedule : Octet := 0x10
abbrev kindCancel : Octet := 0x11
abbrev kindPoll : Octet := 0x20
abbrev kindRead : Octet := 0x30
abbrev kindWrite : Octet := 0x31
abbrev kindControl : Octet := 0x32

abbrev markClear : Octet := 0
abbrev markTaken : Octet := 1
abbrev markBusy : Octet := 2
abbrev markRefused : Octet := 3
abbrev markMalformed : Octet := 4

/-- The code of a frame kind the node originates. -/
def ReplyKind.code : ReplyKind → Octet
  | .reply => 0x80
  | .report => 0x81
  | .notice => 0x82

def MgmtResult.code : MgmtResult → Octet
  | .ok => 0 | .noObject => 1 | .readOnly => 2 | .range => 3 | .state => 4 | .duplicate => 5 | .lockout => 6

def DescResult.code : DescResult → Octet
  | .accepted => 0 | .halted => 1 | .noChannel => 2 | .notPermitted => 3 | .channelDisabled => 4
  | .actionRefused => 5 | .widthRange => 6 | .badRepeat => 7 | .noTime => 8 | .noReference => 9
  | .tooEarly => 10 | .tooLate => 11 | .poolEmpty => 12 | .slotFull => 13 | .withdrawn => 14 | .notAttempted => 15

def ActionOutcome.code : ActionOutcome → Octet
  | .done => 1 | .late => 2 | .suppressed => 3 | .disabled => 4 | .expired => 5 | .dropped => 6 | .cancelled => 7

/-- R117: LATE, SUPPRESSED, DISABLED, EXPIRED and DROPPED are abnormal. -/
def ActionOutcome.abnormal : ActionOutcome → Bool
  | .done => false | .cancelled => false
  | .late => true | .suppressed => true | .disabled => true | .expired => true | .dropped => true

def DiscardReason.code : DiscardReason → Octet
  | .none => 0 | .noBuffer => 1 | .brk => 2 | .framing => 3 | .parity => 4 | .strayControl => 5 | .truncated => 6
  | .overlength => 7 | .short => 8 | .lengthMismatch => 9 | .crc => 10

def SyncState.code : SyncState → Octet
  | .unsynced => 0 | .acquiring => 1 | .locked => 2 | .holdover => 3

def SchedState.code : SchedState → Octet
  | .halted => 0 | .running => 1 | .frozen => 2

/-- The line rate in Mbit/s, which is also its code. -/
def LineRate.code : LineRate → Octet
  | .mbit1 => 1 | .mbit2 => 2 | .mbit4 => 4 | .mbit8 => 8

def LineRate.ofCode : Nat → Option LineRate
  | 1 => some .mbit1 | 2 => some .mbit2 | 4 => some .mbit4 | 8 => some .mbit8 | _ => none

/-- The ticks of a character-time at a rate (section 1.2). -/
def LineRate.charTicks : LineRate → Nat
  | .mbit1 => 48 | .mbit2 => 24 | .mbit4 => 12 | .mbit8 => 6

def ActionKind.code : ActionKind → Octet
  | .set => 1 | .clear => 2 | .toggle => 3 | .pulse => 4

def ActionKind.ofCode (c : Octet) : Option ActionKind :=
  if c = 1 then some .set else if c = 2 then some .clear else if c = 3 then some .toggle
  else if c = 4 then some .pulse else none

/-- The action's bit in an ActionMask (section 11.5). -/
def ActionKind.maskBit : ActionKind → Nat
  | .set => 0 | .clear => 1 | .toggle => 2 | .pulse => 3

/-- A record's action from its kind; Width is kept for a PULSE only (R64). -/
def ActionKind.withWidth : ActionKind → Width → ChannelAction
  | .set, _ => .set | .clear, _ => .clear | .toggle, _ => .toggle | .pulse, w => .pulse w

def SafeLevel.code : SafeLevel → Octet
  | .inactive => 0 | .active => 1 | .hold => 2

def SafeLevel.ofCode (c : Octet) : Option SafeLevel :=
  if c = 0 then some .inactive else if c = 1 then some .active else if c = 2 then some .hold else none

def EdgeSelect.code : EdgeSelect → Octet
  | .rising => 1 | .falling => 2 | .both => 3

def EdgeSelect.ofCode (c : Octet) : Option EdgeSelect :=
  if c = 1 then some .rising else if c = 2 then some .falling else if c = 3 then some .both else none

/-- An Edge field takes an edge of its own direction, or either direction when BOTH (R145). -/
def EdgeSelect.takes : EdgeSelect → Edge → Bool
  | .rising, .rising => true | .falling, .falling => true | .both, _ => true
  | .rising, .falling => false | .falling, .rising => false

def Edge.code : Edge → Octet
  | .rising => 0 | .falling => 1

def Response.code : Response → Nat
  | .note => 0 | .freeze => 1

/-- A two-valued CONFIG field. -/
def boolOfNat : Nat → Option Bool
  | 0 => some false | 1 => some true | _ => none

/-- Bits 0-1 of ModeFlags (R198). -/
def descMode (d : Descriptor) : Option TimeMode :=
  match d.modeFlags.getLsbD 1, d.modeFlags.getLsbD 0 with
  | false, false => some .abs
  | false, true => some .ref
  | true, false => some .arrival
  | true, true => none

/-- Bit 7 of ModeFlags (R198). -/
def descReport (d : Descriptor) : Bool := d.modeFlags.getLsbD 7

/-! ## Requests -/

/-- The CONTROL commands (section 11.3). -/
inductive Command where
  | start | halt | resume | safe | clearWheel | restart | claim | release
deriving DecidableEq, Repr

def Command.ofCode (c : Octet) : Option Command :=
  if c = 1 then some .start else if c = 2 then some .halt else if c = 3 then some .resume
  else if c = 4 then some .safe else if c = 5 then some .clearWheel else if c = 6 then some .restart
  else if c = 7 then some .claim else if c = 8 then some .release else none

def Command.code : Command → Octet
  | .start => 1 | .halt => 2 | .resume => 3 | .safe => 4 | .clearWheel => 5 | .restart => 6 | .claim => 7 | .release => 8

/-- R27, R189: the commands with a broadcast form. -/
def Command.hasBroadcast : Command → Bool
  | .start => true | .halt => true | .resume => true | .safe => true | .restart => true
  | .clearWheel => false | .claim => false | .release => false

abbrev objIdent : Octet := 0x01
abbrev objStatus : Octet := 0x02
abbrev objConfig : Octet := 0x03
abbrev objAddress : Octet := 0x04
abbrev objChannel : Octet := 0x05
abbrev objTrigger : Octet := 0x06
abbrev objFault : Octet := 0x07
abbrev objChannelState : Octet := 0x08
abbrev objCaptureConfig : Octet := 0x09

/-- How many indices an object code has (section 11.5): 0 for a code that names no object. -/
def objectIndices (object : Octet) : Nat :=
  if object = objIdent then 1 else if object = objStatus then 1 else if object = objConfig then 24
  else if object = objAddress then 8 else if object = objChannel then 16 else if object = objTrigger then 8
  else if object = objFault then 1 else if object = objChannelState then 16
  else if object = objCaptureConfig then 1 else 0

/-- R179: the named object exists. -/
def objectExists (object index : Octet) : Bool := decide (index.toNat < objectIndices object)

/-- The WRITE length of an object (section 11.5). -/
def writeLength (object : Octet) : Nat :=
  if object = objIdent then 5 else if object = objStatus then 22 else if object = objConfig then 2
  else if object = objAddress then 4 else if object = objChannel then 6 else if object = objTrigger then 9
  else if object = objFault then 1 else if object = objChannelState then 8
  else if object = objCaptureConfig then 10 else 0

/-- R182: IDENT, STATUS and CHANNEL_STATE are read-only. -/
def objectReadOnly (object : Octet) : Bool :=
  object = objIdent || object = objStatus || object = objChannelState

/-- A WRITE as its owning block takes it. -/
inductive ObjWrite where
  /-- An object with no write behaviour of its own: it does not exist, or it is read-only. -/
  | plain (object index : Octet)
  | config (index : Octet) (value : Half)
  | address (index : Fin 8) (value : AddressValue)
  | channel (index : Fin 16) (value : ChannelValue)
  | trigger (index : Fin 8) (value : TriggerValue)
  | captureConfig (value : CaptureValue)
  | fault (mask : Octet)
deriving DecidableEq, Repr

/-- A request as its owning block takes it. -/
inductive Request where
  | schedule (flags : Octet) (descriptors : List Descriptor)
  | cancel (selector : Octet) (tag : Half) (channel : Octet)
  | poll (ackValid : Octet) (ackSeq : Half) (maxCount : Octet)
  | read (object index : Octet)
  | write (w : ObjWrite)
  | control (c : Command)
deriving DecidableEq, Repr

/-- The octets of the descriptors of a SCHEDULE, 16 each (section 11.3). None unless whole. -/
def parseDescriptors : List Octet → Option (List Descriptor)
  | [] => some []
  | c :: a :: m :: p :: t0 :: t1 :: t2 :: t3 :: w0 :: w1 :: w2 :: w3 :: g0 :: g1 :: n0 :: n1 :: rest =>
    (parseDescriptors rest).map fun ds =>
      { channel := c, action := a, modeFlags := m, period := p,
        target := t0 ++ t1 ++ t2 ++ t3, width := w0 ++ w1 ++ w2 ++ w3,
        tag := g0 ++ g1, count := n0 ++ n1 } :: ds
  | _ => none

/-- The value octets of a WRITE (section 11.5, R201). None when the object exists and the length is not its own (R31). -/
def parseWrite (object index : Octet) (value : List Octet) : Option ObjWrite :=
  if !objectExists object index then some (.plain object index)
  else if value.length ≠ writeLength object then none
  else if objectReadOnly object then some (.plain object index)
  else if object = objConfig then
    match value with
    | [a, b] => some (.config index (a ++ b))
    | _ => none
  else if object = objAddress then
    match value with
    | [a, m0, m1, f] => some (.address (Fin.ofNat 8 index.toNat) { address := a, mask := m0 ++ m1, flags := f })
    | _ => none
  else if object = objChannel then
    match value with
    | [f, sl, am, p0, p1, p2] =>
      some (.channel (Fin.ofNat 16 index.toNat) { flags := f, safeLevel := sl, actionMask := am, maxPulse := p0 ++ p1 ++ p2 })
    | _ => none
  else if object = objTrigger then
    match value with
    | [f, l, e, c, a, w0, w1, w2, d] =>
      some (.trigger (Fin.ofNat 8 index.toNat)
        { flags := f, line := l, edge := e, channel := c, action := a, width := w0 ++ w1 ++ w2, delay := d })
    | _ => none
  else if object = objFault then
    match value with
    | [m] => some (.fault m)
    | _ => none
  else
    match value with
    | [en, e0, e1, e2, e3, e4, e5, e6, e7, ft] =>
      some (.captureConfig { enable := en, edges := #v[e0, e1, e2, e3, e4, e5, e6, e7], filterTime := ft })
    | _ => none

/-- The request kinds the Classifier knows at step 6 (R29). -/
def requestKind (kind : Octet) : Bool :=
  kind = kindSchedule || kind = kindCancel || kind = kindPoll || kind = kindRead || kind = kindWrite || kind = kindControl

/-- The request a payload holds, by its kind (R31, R198); none when its length, or its command code, is not of the
kind's form. -/
def parseRequest (kind : Octet) (payload : List Octet) : Option Request :=
  if kind = kindSchedule then
    match payload with
    | flags :: rest => (parseDescriptors rest).map (.schedule flags)
    | [] => none
  else if kind = kindCancel then
    match payload with
    | [sel, t0, t1, ch] => some (.cancel sel (t0 ++ t1) ch)
    | _ => none
  else if kind = kindPoll then
    match payload with
    | [av, s0, s1, mc] => some (.poll av (s0 ++ s1) mc)
    | _ => none
  else if kind = kindRead then
    match payload with
    | [o, i] => some (.read o i)
    | _ => none
  else if kind = kindWrite then
    match payload with
    | o :: i :: v => (parseWrite o i v).map .write
    | _ => none
  else
    match payload with
    | [c] => (Command.ofCode c).map .control
    | _ => none

/-- R31: the form of a request beyond its length. -/
def Request.wellFormed : Request → Bool
  | .schedule _ ds => decide (1 ≤ ds.length) && decide (ds.length ≤ 14) && ds.all (fun d => (descMode d).isSome)
  | .cancel sel _ ch => sel = 1 || (sel = 2 && decide (ch.toNat < 16)) || sel = 3
  | .poll _ _ mc => decide (1 ≤ mc.toNat) && decide (mc.toNat ≤ 16)
  | .read _ _ => true
  | .write _ => true
  | .control _ => true

/-- R23: the flag that permits a kind. -/
def kindPermitted (e : Station) (kind : Octet) : Bool :=
  if kind = kindSchedule || kind = kindCancel then e.sched
  else if kind = kindPoll then e.capt
  else e.mgmt

/-- R30: WRITE and CONTROL are subject to ownership. -/
def kindOwned (kind : Octet) : Bool := kind = kindWrite || kind = kindControl

/-- The kind octet of a request. -/
def Request.kind : Request → Octet
  | .schedule _ _ => kindSchedule
  | .cancel _ _ _ => kindCancel
  | .poll _ _ _ => kindPoll
  | .read _ _ => kindRead
  | .write _ => kindWrite
  | .control _ => kindControl

end Sys2Proof.Machine
end

