-- ==== Sys2Proof/Machine/Flags.lean ====
section
/-! DEFINITION. The flags of the part: the latched and active flags of the Fault Set (R160), STAT (R164), and the pins
that follow from the state (R128, R40). -/

namespace Sys2Proof.Machine

/-- The code and mask bit of a fault kind (section 11.4). -/
def FaultKind.code : FaultKind → Fin 8
  | .lineErrors => 0 | .rxOverrun => 1 | .syncJump => 2 | .syncLost => 3
  | .actionsExpired => 4 | .repeatDropped => 5 | .triggerMissed => 6 | .noticeOverflow => 7

/-- A mask holding one kind. -/
def FaultKind.mask (k : FaultKind) : Octet := 1 <<< k.code.val

def State.isLatched (s : State) (k : FaultKind) : Bool := s.faults.latched.getLsbD k.code.val

def State.isActive (s : State) (k : FaultKind) : Bool := s.faults.active.getLsbD k.code.val

/-- Set a latched flag. -/
def State.latch (s : State) (k : FaultKind) : State :=
  s.setFaults { s.faults with latched := s.faults.latched ||| k.mask }

/-- Set an active-condition flag. -/
def State.activate (s : State) (k : FaultKind) : State :=
  s.setFaults { s.faults with active := s.faults.active ||| k.mask }

/-- Clear an active-condition flag; the latched flag stands (R163). -/
def State.deactivate (s : State) (k : FaultKind) : State :=
  s.setFaults { s.faults with active := s.faults.active &&& ~~~k.mask }

/-- The Response of a kind, as it stands (R162). -/
def State.responseOf (s : State) (k : FaultKind) : Response := s.cfg.responses[k.code]

/-- R103, R105: a kind whose Response is FREEZE has its flag latched. -/
def State.freezeLatched (s : State) : Bool :=
  (List.finRange 8).any fun i => s.faults.latched.getLsbD i.val && s.cfg.responses[i] == .freeze

/-- R164: STAT is high while a latched flag is set; low in reset (R195). -/
def State.stat (s : State) : Bool := !s.resetHeld && decide (s.faults.latched ≠ 0)

/-- R128: the electrical level of pin Qn; low while RESET_N is low. -/
def State.pinQ (s : State) (n : Fin 16) : Bool :=
  !s.resetHeld && (s.out.chans[n].level != s.out.table[n].invert)

/-- R40: the characters the transmitter puts on LOUT for the frame it is sending; none, so LOUT at 1, otherwise. -/
def State.loutFrame (s : State) : List RawChar :=
  let chars := fun octets =>
    charOfOctet true 0xA5 :: (octets.map (charOfOctet false)) ++ [charOfOctet true 0x5A]
  match s.port.tx with
  | .sendingForward octets _ => chars octets
  | .sendingReply octets _ _ => chars octets
  | .idle => []
  | .gap _ => []

end Sys2Proof.Machine
end

