-- ==== Sys2Proof/Machine/Ops.lean ====
section
/-! DEFINITION. Operations shared by the blocks: time and slots, the pins of the channels, the Notice Queue, raising a
fault, the action pool and the wheel. -/

namespace Sys2Proof.Machine

/-! ## Outcomes -/

/-- The outcome of a command with this effect. While RESET_N is held low every block stays at its reset state, so no
command but RESET_RELEASE has an effect (R195). -/
def answer (s t : State) : Host.Outcome State Fault Refusal :=
  .next (if s.resetHeld then s else t)

/-! ## Time (R45 to R47) -/

/-- R46: line time is the local count plus the offset, modulo 2^48. -/
def State.lineTime (s : State) : Ticks := s.time.localCount + s.time.offset

/-- R47: the slot number of a line time, for this SlotExp. -/
def slotOf (slotExp : Nat) (t : Ticks) : SlotNo := (t >>> slotExp).setWidth 32

/-- The slot number of line time at the present moment (R47). -/
def State.slotNow (s : State) : SlotNo := slotOf s.cfg.slotExp s.lineTime

/-- R47: the distance from slot number `a` to `b`, in -2^31 to 2^31 - 1. -/
def slotDistance (a b : SlotNo) : Int := (b - a).toInt

/-- The index of the slot list of a slot number (R70): the number modulo 256. -/
def slotIndex (n : SlotNo) : BitVec 8 := n.setWidth 8

/-- The first tick of slot `n`, where line time `t` lies in slot `n` or in one after it (R118). -/
def firstTickOf (slotExp : Nat) (t : Ticks) (n : SlotNo) : Ticks :=
  ((t >>> slotExp) - (slotOf slotExp t - n).setWidth 48) <<< slotExp

/-- The local count `now` has reached an instant (R133: modulo 2^48, so half the range lies behind). -/
def reached (now instant : Ticks) : Bool := !(now - instant).msb

/-- The instant this many ticks from now. -/
def State.ticksAhead (s : State) (n : Nat) : Ticks := s.time.localCount + BitVec.ofNat 48 n

/-- Milliseconds of the local count: 4000 ticks each (R58). -/
def msTicks (ms : Nat) : Nat := 4000 * ms

/-! ## Output channels (chapter 7) -/

/-- R136: what a safe-level drive makes of one channel. -/
def safeOne (e : ChannelEntry) (c : ChannelState) : ChannelState :=
  { level := (match e.safeLevel with | .inactive => false | .active => true | .hold => c.level),
    pulseEnd := none, lastTag := c.lastTag }

/-- R136: every one of the 16 channels is set according to its SafeLevel. -/
def State.safeDrive (s : State) : State :=
  s.setOut { s.out with chans := Vector.zipWith safeOne s.out.table s.out.chans }

/-- R129 to R132: what an action with this Tag makes of one channel at local count `now`. -/
def actOn (now : Ticks) (a : ChannelAction) (tag : Half) (c : ChannelState) : ChannelState :=
  match a with
  | .set => { level := true, pulseEnd := none, lastTag := some tag }
  | .clear => { level := false, pulseEnd := none, lastTag := some tag }
  | .toggle => { level := !c.level, pulseEnd := none, lastTag := some tag }
  | .pulse w => { level := true, pulseEnd := some (now + w.setWidth 48), lastTag := some tag }

/-- R129: the hand-off of a record's action to its channel. -/
def State.applyAction (s : State) (r : ActionRecord) : State :=
  s.setOut { s.out with
    chans := s.out.chans.set r.channel (actOn s.time.localCount r.action r.tag s.out.chans[r.channel]) }

/-! ## The FREEZE response, notices and raises (R107, chapter 9) -/

/-- R107: a FREEZE response: RUNNING becomes FROZEN with safe levels, HALTED drives safe levels only, FROZEN stays. -/
def State.freezeResponse (s : State) : State :=
  match s.sched.state with
  | .running => (s.setSched { s.sched with state := .frozen }).safeDrive
  | .halted => s.safeDrive
  | .frozen => s

/-- R162: the Response of a kind, as it stands, is applied. -/
def State.respond (s : State) (k : FaultKind) : State :=
  match s.responseOf k with
  | .freeze => s.freezeResponse
  | .note => s

/-- R172: the Overflow mark of the newest notice is set. -/
def markNewest : List Notice → List Notice
  | [] => []
  | [n] => [{ n with overflow := true }]
  | n :: m :: rest => n :: markNewest (m :: rest)

/-- R168, R172: a notice is offered. With room it joins at the tail, its mark clear. Offered to a full queue it is
dropped: the newest notice is marked and NOTICE_OVERFLOW is raised, whose own FAULT notice meets the same full queue
and is dropped without a further overflow, and whose Response is applied when the raise latched. -/
def State.offerNotice (s : State) (b : NoticeBody) : State :=
  if s.notices.queue.length < Config.noticePlaces then
    s.setNotices { s.notices with queue := s.notices.queue ++ [{ overflow := false, body := b }] }
  else
    let marked := s.setNotices { s.notices with queue := markNewest s.notices.queue }
    if marked.isLatched .noticeOverflow then marked
    else (marked.latch .noticeOverflow).respond .noticeOverflow

/-- R161: a raise. A clear flag is latched, a FAULT notice is offered while FaultNotices is on, and the Response is
applied, in this order. A flag already latched leaves everything as it is. -/
def State.raise (s : State) (k : FaultKind) (time : Ticks) : State :=
  if s.isLatched k then s
  else
    let latched := s.latch k
    let noticed := if latched.cfg.faultNotices then latched.offerNotice (.fault k time) else latched
    noticed.respond k

/-- R19: the LINE_ERRORS condition is evaluated after a change of the count or of the limit: it is active while the
count is at or above LineErrorLimit, raised when it becomes active, and reported ended when it becomes inactive. -/
def State.evalLineErrors (s : State) : State :=
  if s.cfg.lineErrorLimit ≤ s.rx.badCount then
    if s.isActive .lineErrors then s
    else (s.activate .lineErrors).raise .lineErrors s.lineTime
  else s.deactivate .lineErrors

/-! ## The action pool and the release wheel (chapter 4) -/

/-- R70: slot list `i`, in link order. -/
def State.slotList (s : State) (i : BitVec 8) : List ActionRecord :=
  s.sched.wheel.filter fun r => slotIndex r.due = i

/-- R70: the list that a Due selects has a place. -/
def State.listHasPlace (s : State) (due : SlotNo) : Bool :=
  decide ((s.slotList (slotIndex due)).length < Config.listPlaces)

/-- R71: the head of the free list is filled and linked at the tail of the list of its Due; none when the free list
is empty or the list is full, and then nothing changes. -/
def State.linkRecord (s : State) (fill : Nat → ActionRecord) : Option State :=
  match s.sched.free with
  | [] => none
  | id :: rest =>
    if s.listHasPlace (fill id).due then
      some (s.setSched { s.sched with free := rest, wheel := s.sched.wheel ++ [fill id] })
    else none

/-- R73: a record is unlinked; the others keep their order. -/
def State.unlink (s : State) (id : Nat) : State :=
  s.setSched { s.sched with wheel := s.sched.wheel.eraseP fun r => r.id = id }

/-- R69, R73: a record is unlinked and joins the tail of the free list. -/
def State.freeRecord (s : State) (id : Nat) : State :=
  let t := s.unlink id
  t.setSched { t.sched with free := t.sched.free ++ [id] }

/-- R78, R104: every linked record is freed, without an outcome, in link order (log 14). -/
def State.clearRecords (s : State) : State :=
  s.setSched { s.sched with free := s.sched.free ++ s.sched.wheel.map (·.id), wheel := [] }

/-- R72: a record, as it now stands, moves to the tail of the list of a new Due, after leaving its old list. None when
that list is full. -/
def State.relink (s : State) (r : ActionRecord) (due : SlotNo) : Option State :=
  let t := s.unlink r.id
  if t.listHasPlace due then
    some (t.setSched { t.sched with wheel := t.sched.wheel ++ [{ r with due := due }] })
  else none

/-- The linked record of this number, as it stands. -/
def State.findRecord (s : State) (id : Nat) : Option ActionRecord :=
  s.sched.wheel.find? fun r => r.id = id

/-- R79, R140: the count of linked records on a channel. -/
def State.pendingOn (s : State) (ch : Fin 16) : Nat :=
  (s.sched.wheel.filter fun r => r.channel = ch).length

/-! ## Counting and completion notices (R65, R113, R117) -/

/-- One less, never of UNLIMITED (R65). -/
def Remaining.less (n : Nat) : Remaining → Remaining
  | .times m => .times (m - n)
  | .unlimited => .unlimited

/-- No firing is left. -/
def Remaining.spent : Remaining → Bool
  | .times n => decide (n = 0)
  | .unlimited => false

/-- R113: Fired and Remaining after an outcome. Fired stops at 65535 (R65). -/
def ActionRecord.count (r : ActionRecord) : ActionOutcome → ActionRecord
  | .done | .late | .disabled => { r with fired := min 65535 (r.fired + 1), remaining := r.remaining.less 1 }
  | .suppressed | .expired => { r with remaining := r.remaining.less 1 }
  | .dropped | .cancelled => r

/-- R117, R118: a completion notice is offered when Report is set, or when the outcome is abnormal and ReportAbnormal
is on. -/
def State.offerCompletion (s : State) (r : ActionRecord) (o : ActionOutcome) (time : Ticks) : State :=
  if r.report || (o.abnormal && s.cfg.reportAbnormal) then
    s.offerNotice (.completion r.tag r.channel o r.origin r.fired time)
  else s

end Sys2Proof.Machine
end

