-- ==== Sys2Proof/Machine/Objects.lean ====
section
/-! DEFINITION. What the node sends: the CRC (R15, R197), frames (section 11.1), capture records and notices
(section 11.4), and the values of the management objects (section 11.5). -/

namespace Sys2Proof.Machine

/-- R15: one bit of the check sequence. -/
def crcBit (reg : BitVec 16) (bit : Bool) : BitVec 16 :=
  if reg.msb != bit then (reg <<< 1) ^^^ 0x1021 else reg <<< 1

/-- R15: one octet, most significant bit first. -/
def crcOctet (reg : BitVec 16) (o : Octet) : BitVec 16 :=
  (List.range 8).foldl (fun r i => crcBit r (o.getLsbD (7 - i))) reg

/-- R15, R197: the register, preset to 0xFFFF, after these octets. -/
def crcOf (octets : List Octet) : BitVec 16 := octets.foldl crcOctet 0xFFFF

/-- The header and payload of a frame (section 11.1). -/
def Frame.octets (f : Frame) : List Octet :=
  [f.dest, f.src, f.kind, f.seq, f.hops, f.mark, BitVec.ofNat 8 f.payload.length] ++ f.payload

/-- R43, R197: the octets between FS and FE, the CRC formed afresh and sent high octet first. -/
def Frame.withCrc (f : Frame) : List Octet := f.octets ++ octetsOf 2 (crcOf f.octets)

/-- A capture record in a REPORT (section 11.4, R200). -/
def CaptureRecord.octets (r : CaptureRecord) : List Octet :=
  let info := BitVec.ofNat 8 r.line.val ||| (r.edge.code <<< 3) ||| (r.sync.code <<< 4) ||| (if r.gap then 0x40 else 0)
  octetsOf 2 r.seq ++ [info] ++ octetsOf 6 r.time

/-- The Origin and Requester octets of a completion notice (section 11.4). -/
def Origin.octets : Origin → List Octet
  | .line q => [0x00, q]
  | .trigger n => [0x80 + BitVec.ofNat 8 n.val, 0xFF]

/-- A notice in a NOTICE frame (section 11.4, R200). -/
def Notice.octets (n : Notice) : List Octet :=
  let mark : Octet := if n.overflow then 0x80 else 0
  match n.body with
  | .completion tag ch o origin fired time =>
    [mark] ++ octetsOf 2 tag ++ [BitVec.ofNat 8 ch.val, o.code] ++ origin.octets ++ octetsOfNat 2 fired ++ octetsOf 6 time
  | .fault k time =>
    [mark ||| 1, 0, 0, 0, BitVec.ofNat 8 k.code.val, 0, 0, 0, 0] ++ octetsOf 6 time

/-! ## Object values (section 11.5) -/

/-- R181. -/
def identValue : List Octet := [0x3A, 0x51, 0x53, 0x12, 0x01]

/-- R180. -/
def State.statusValue (s : State) : List Octet :=
  [s.sched.state.code, s.time.sync.code] ++ octetsOfNat 2 s.sched.free.length ++
  [BitVec.ofNat 8 s.cap.ring.length, BitVec.ofNat 8 s.notices.queue.length, BitVec.ofNat 8 s.port.replies.length,
   BitVec.ofNat 8 s.rx.freeBuffers, BitVec.ofNat 8 s.rx.badCount, s.rx.lastDiscard.code, s.rate.code] ++
  octetsOf 4 s.sched.curSlot ++ octetsOf 6 s.lineTime ++ [s.owner]

/-- The value of the CONFIG field of an index (section 11.5, R202). -/
def ConfigFields.get (c : ConfigFields) (index : Nat) : Nat :=
  match index with
  | 0 => c.slotExp
  | 1 => c.lead
  | 2 => c.window
  | 3 => c.catchUpLimit
  | 4 => c.stepLimit
  | 5 => c.syncTimeout
  | 6 => c.holdoverLimit
  | 7 => c.linkDelay
  | 8 => c.lineRate.code.toNat
  | 9 => c.arbiterRatio
  | 10 => c.lineErrorLimit
  | 11 => c.replyHops
  | 12 => c.reportAddress.toNat
  | 13 => c.timeSource.toNat
  | 14 => if c.reportAbnormal then 1 else 0
  | 15 => if c.faultNotices then 1 else 0
  | n => (c.responses[Fin.ofNat 8 (n - 16)]).code

/-- R201: an EMPTY entry reads as Address 0x00, mask 0 and flags 0x80. -/
def addressOctets : Option Station → List Octet
  | none => [0x00, 0x00, 0x00, 0x80]
  | some e => [e.address] ++ octetsOf 2 e.mask ++ [flagOctet [e.sched, e.capt, e.mgmt]]

def ChannelEntry.octets (e : ChannelEntry) : List Octet :=
  [flagOctet [e.enabled, e.invert], e.safeLevel.code, e.actionMask.setWidth 8] ++ octetsOf 3 e.maxPulse

def TriggerEntry.octets (e : TriggerEntry) : List Octet :=
  [flagOctet [e.enabled, e.oneShot, e.report], BitVec.ofNat 8 e.line.val, e.edge.code, BitVec.ofNat 8 e.channel.val,
   e.action.code] ++ octetsOf 3 e.width ++ [e.delay]

/-- R140: PulseEnd less the local count, 0 at the instant of the expiry and when no pulse is active. -/
def State.pulseRemaining (s : State) (ch : Fin 16) : Width :=
  match s.out.chans[ch].pulseEnd with
  | none => 0
  | some e => if reached s.time.localCount e then 0 else (e - s.time.localCount).setWidth 24

/-- R140, R201. -/
def State.channelStateValue (s : State) (ch : Fin 16) : List Octet :=
  let c := s.out.chans[ch]
  [flagOctet [c.level, c.pulseEnd.isSome, c.lastTag.isSome]] ++ octetsOf 3 (s.pulseRemaining ch) ++
  octetsOf 2 (c.lastTag.getD 0) ++ octetsOfNat 2 (s.pendingOn ch)

/-- R141. -/
def State.captureConfigValue (s : State) : List Octet :=
  [s.cap.enable] ++ s.cap.edges.toList.map EdgeSelect.code ++ [s.cap.filterTime]

/-- The value of an object that exists, read from its owning block now (R42, R179). -/
def State.objectValue (s : State) (object index : Octet) : List Octet :=
  if object = objIdent then identValue
  else if object = objStatus then s.statusValue
  else if object = objConfig then octetsOfNat 2 (s.cfg.get index.toNat)
  else if object = objAddress then addressOctets s.addr[Fin.ofNat 8 index.toNat]
  else if object = objChannel then s.out.table[Fin.ofNat 16 index.toNat].octets
  else if object = objTrigger then s.cap.triggers[Fin.ofNat 8 index.toNat].octets
  else if object = objFault then [s.faults.latched, s.faults.active]
  else if object = objChannelState then s.channelStateValue (Fin.ofNat 16 index.toNat)
  else s.captureConfigValue

end Sys2Proof.Machine
end

