-- ==== Sys2Proof/Machine/Port.lean ====
section
/-! DEFINITION. The Output Port: the queues, transmit-time assembly, the arbiter (chapter 2), NOTICE and REPORT bodies
(R150, R174), and the moment RESTART takes effect (R192). -/

namespace Sys2Proof.Machine

/-! ## Placing items -/

/-- R33, R37: a descriptor joins the Reply Queue at its tail. -/
def State.queueReply (s : State) (d : ReplyDesc) : State :=
  s.setPort { s.port with replies := s.port.replies ++ [d] }

/-- R39: a RESTART reply joins at the head. -/
def State.queueReplyFirst (s : State) (d : ReplyDesc) : State :=
  s.setPort { s.port with replies := d :: s.port.replies }

/-- The descriptor of the reply to a request (R37). -/
def replyTo (h : ReqHeader) (kind : ReplyKind) (body : ReplyBody) : ReplyDesc :=
  { kind := kind, dest := h.src, src := h.dest, seq := h.seq, body := body, restartMark := false, restartReply := false }

/-- A NOTICE descriptor: its header is completed at transmit start (R38). -/
def noticeDesc : ReplyDesc :=
  { kind := .notice, dest := 0, src := 0, seq := 0, body := .notice, restartMark := false, restartReply := false }

/-- R38, R173: a NOTICE descriptor is placed when notices wait, none is outstanding, and two entries are free. -/
def State.placeNotice (s : State) : State :=
  if s.notices.queue ≠ [] ∧ s.notices.outstanding = false ∧ s.port.replies.length + 2 ≤ Config.replyPlaces then
    (s.queueReply noticeDesc).setNotices { s.notices with outstanding := true }
  else s

/-! ## Transmit start -/

/-- The instant at which a frame of these octets, begun now, will have been sent: FS, the octets and FE, one
character-time each (R40; log 19). -/
def State.sentAt (s : State) (octets : List Octet) : Ticks :=
  s.ticksAhead ((octets.length + 2) * s.rate.charTicks)

/-- R44: the residence of a forwarded frame: line time now less the arrival, re-expressed on the offset in force. -/
def State.residence (s : State) (f : Forwarded) : Ticks :=
  s.lineTime - (f.arrival + (s.time.offset - f.arrivalOffset))

/-- The Correction field of a SYNC payload (section 11.3). -/
def correctionOf : List Octet → BitVec 32
  | _ :: _ :: _ :: _ :: _ :: _ :: c0 :: c1 :: c2 :: c3 :: _ => c0 ++ c1 ++ c2 ++ c3
  | _ => 0

/-- R43, R44: the frame as it is sent: a broadcast SYNC of Length 11 has its Correction brought up to date. -/
def State.outgoing (s : State) (f : Forwarded) : Frame :=
  if f.frame.kind = kindSync ∧ f.frame.dest = 0xFF ∧ f.frame.payload.length = 11 then
    let c := correctionOf f.frame.payload + (s.residence f).setWidth 32 + BitVec.ofNat 32 s.cfg.linkDelay
    { f.frame with payload := f.frame.payload.take 6 ++ octetsOf 4 c ++ f.frame.payload.drop 10 }
  else f.frame

/-- R43: the transmitter begins the oldest forwarded frame; the buffer stays in the queue. -/
def State.startForward (s : State) (credit : Nat) : State :=
  match s.port.forward with
  | [] => s
  | f :: _ =>
    let octets := (s.outgoing f).withCrc
    s.setPort { s.port with credit := credit, tx := .sendingForward octets (s.sentAt octets) }

/-- R148: the position of a Seq in the ring; none when the ring is empty or the Seq is not in it. -/
def CaptureUnit.position (c : CaptureUnit) (seq : Half) : Option Nat :=
  match c.ring with
  | [] => none
  | oldest :: _ =>
    let p := (seq - oldest.seq).toNat
    if p < c.ring.length then some p else none

/-- R150: the records a REPORT of this MaxCount carries. -/
def CaptureUnit.reported (c : CaptureUnit) (maxCount : Octet) : List CaptureRecord := c.ring.take maxCount.toNat

/-- R150: HighestReported is brought forward to the newest record carried, and never back. -/
def CaptureUnit.advanceHighest (c : CaptureUnit) (maxCount : Octet) : CaptureUnit :=
  match (c.reported maxCount).getLast? with
  | none => c
  | some newest =>
    match c.highest.bind c.position, c.position newest.seq with
    | some old, some new => if old < new then { c with highest := some newest.seq } else c
    | _, _ => { c with highest := some newest.seq }

/-- R150, R200: the body of a REPORT. -/
def CaptureUnit.reportBody (c : CaptureUnit) (maxCount : Octet) : List Octet :=
  let records := c.reported maxCount
  [BitVec.ofNat 8 records.length, BitVec.ofNat 8 c.ring.length] ++ records.flatMap CaptureRecord.octets

/-- R38: the Address of the lowest-indexed non-EMPTY entry. The table never lacks one (R22). -/
def State.firstAddress (s : State) : Octet :=
  match s.addr.toList.findSome? id with
  | some e => e.address
  | none => 0x00

/-- R42: a frame the node originates, with Mark CLEAR and Hops as ReplyHops stands. -/
def State.originated (s : State) (kind : ReplyKind) (dest src seq : Octet) (body : List Octet) : Frame :=
  { dest := dest, src := src, kind := kind.code, seq := seq, hops := BitVec.ofNat 8 s.cfg.replyHops,
    mark := markClear, payload := body }

/-- R174: the Notice Unit and the sequence count after a NOTICE frame has begun. -/
def State.noticesTaken (s : State) : State :=
  (s.setNotices { queue := s.notices.queue.drop Config.noticesPerFrame, outstanding := false }).setPort
    { s.port with noticeSeq := s.port.noticeSeq + 1 }

/-- R174, R200: the body of a NOTICE. -/
def State.noticeBody (s : State) : List Octet :=
  let taken := s.notices.queue.take Config.noticesPerFrame
  [BitVec.ofNat 8 taken.length] ++ taken.flatMap Notice.octets

/-- R42: the frame of a descriptor that has left the queue, formed now, and the state its body is taken from. -/
def State.assemble (s : State) (d : ReplyDesc) : Frame × State :=
  match d.body with
  | .fixed octets => (s.originated d.kind d.dest d.src d.seq octets, s)
  | .read r o i =>
    (s.originated d.kind d.dest d.src d.seq (r.code :: (if r = .ok then s.objectValue o i else [])), s)
  | .report m =>
    (s.originated d.kind d.dest d.src d.seq (s.cap.reportBody m), s.setCap (s.cap.advanceHighest m))
  | .notice =>
    (s.originated d.kind s.cfg.reportAddress s.firstAddress s.port.noticeSeq s.noticeBody, s.noticesTaken)

/-- R42: the transmitter begins the head of the Reply Queue, and the credit becomes 0 (R41). -/
def State.startReply (s : State) : State :=
  match s.port.replies with
  | [] => s
  | d :: rest =>
    let left := s.setPort { s.port with replies := rest }
    let (f, t) := left.assemble d
    let octets := f.withCrc
    t.setPort { t.port with credit := 0, tx := .sendingReply octets (t.sentAt octets) d.restartMark }

/-- R39: the head of the Reply Queue is a RESTART reply. -/
def State.restartReplyWaits (s : State) : Bool :=
  match s.port.replies with
  | [] => false
  | d :: _ => d.restartReply

/-- R40: an IDLE transmitter takes at once what has been placed. Where a frame and a descriptor have arrived together
either may be first (log 9), but a RESTART reply leaves before the frame it answers (R39; log 10). -/
def State.idleStart (s : State) : State :=
  match s.port.tx with
  | .idle =>
    match s.port.forward, s.port.replies with
    | [], [] => s
    | _ :: _, [] => s.startForward 0
    | [], _ :: _ => s.startReply
    | _ :: _, _ :: _ =>
      if s.restartReplyWaits then s.startReply
      else
        let t := s.setChoices (s.choices + 1)
        if Config.idleReplyFirst s.choices then t.startReply else t.startForward 0
  | .sendingForward _ _ => s
  | .sendingReply _ _ _ => s
  | .gap _ => s

/-- The end of an event that may have placed a notice, a descriptor or a frame: the Notice Unit examines its
conditions, an IDLE transmitter begins, and the conditions are examined again, for a descriptor may have left
(R38, R40, R173; log 8). -/
def State.settle (s : State) : State := s.placeNotice.idleStart.placeNotice

/-- R41: the arbiter's choice. -/
def State.arbitrate (s : State) : State :=
  match s.port.forward, s.port.replies with
  | [], [] => s.setPort { s.port with tx := .idle }
  | _ :: _, [] => s.startForward 0
  | [], _ :: _ => s.startReply
  | _ :: _, _ :: _ =>
    if s.restartReplyWaits then s.startReply
    else if s.cfg.arbiterRatio ≤ s.port.credit then s.startReply
    else s.startForward (s.port.credit + 1)

/-! ## RESTART -/

/-- R39: the Output Port holds a restart mark. -/
def State.markHeld (s : State) : Bool :=
  s.port.forward.any (·.restartMark) || s.port.replies.any (·.restartMark) ||
  (match s.port.tx with
   | .sendingReply _ _ m => m
   | .idle => false
   | .sendingForward _ _ => false
   | .gap _ => false)

/-- The transmitter enters GAP for 2 character-times (R40). -/
def State.enterGap (s : State) : State :=
  s.setPort { s.port with tx := .gap (s.ticksAhead (2 * s.rate.charTicks)) }

/-- R21, R192: the Line Receiver and the pool at the moment of effect. A break that has not ended still has to end. -/
def Receiver.restarted (r : Receiver) (now : Ticks) : Receiver :=
  { state := .settling now, badCount := 0, lastDiscard := .none, inBreak := r.inBreak, freeBuffers := Config.buffers }

/-- R63, R192: the Time Base keeps the local count and the offset. -/
def TimeBase.restarted (t : TimeBase) : TimeBase :=
  { localCount := t.localCount, offset := t.offset, sync := .unsynced, outliers := 0, reference := none,
    syncTimer := none, holdoverTimer := none }

/-- R192: RESTART takes effect: what R193 lists is kept, every queue, ring and wheel is emptied, the channels are driven
to their safe levels, and the staged LineRate is applied to receiver and transmitter together. -/
def State.restartEffect (s : State) : State :=
  let s := s.setRate s.cfg.lineRate
  let s := s.setRx (s.rx.restarted s.time.localCount)
  let s := s.setPort { s.port with forward := [], replies := [], credit := 0, noticeSeq := 0 }
  let s := s.enterGap
  let s := s.setTime s.time.restarted
  let s := s.clearRecords
  let s := s.setSched { s.sched with state := .halted }
  let s := s.safeDrive
  let s := s.setCap { s.cap with ring := [], nextSeq := 0, gapPending := false, highest := none }
  let s := s.setFaults { latched := 0, active := 0 }
  s.setNotices { queue := [], outstanding := false }

/-- The item being sent carries the restart mark (R39). -/
def State.sendingMarked (s : State) : Bool :=
  match s.port.tx with
  | .sendingForward _ _ => (s.port.forward.head?.map (·.restartMark)).getD false
  | .sendingReply _ _ m => m
  | .idle => false
  | .gap _ => false

/-- The FE of the item being sent has gone out by now. -/
def State.sendingDone (s : State) : Bool :=
  match s.port.tx with
  | .sendingForward _ doneAt => reached s.time.localCount doneAt
  | .sendingReply _ doneAt _ => reached s.time.localCount doneAt
  | .idle => false
  | .gap _ => false

/-- R36: the buffer of the forwarded frame that has been sent returns to the pool. -/
def State.returnSentBuffer (s : State) : State :=
  match s.port.tx with
  | .sendingForward _ _ =>
    match s.port.forward with
    | [] => s
    | _ :: rest =>
      (s.setPort { s.port with forward := rest }).setRx { s.rx with freeBuffers := s.rx.freeBuffers + 1 }
  | .sendingReply _ _ _ => s
  | .idle => s
  | .gap _ => s

/-- R40, R43: the FE has been sent: the buffer returns, the gap begins, and a RESTART marked on the item takes effect at
that same moment. -/
def State.endTransmission (s : State) : State :=
  if s.sendingMarked then s.returnSentBuffer.enterGap.restartEffect else s.returnSentBuffer.enterGap

/-- R39: the newest frame of the Forward Queue gets the restart mark. -/
def markLast : List Forwarded → List Forwarded
  | [] => []
  | [f] => [{ f with restartMark := true }]
  | f :: g :: rest => f :: markLast (g :: rest)

/-- R39: the item being sent gets the restart mark. -/
def State.markSending (s : State) : State :=
  match s.port.tx with
  | .sendingForward _ _ =>
    match s.port.forward with
    | [] => s
    | f :: rest => s.setPort { s.port with forward := { f with restartMark := true } :: rest }
  | .sendingReply octets doneAt _ => s.setPort { s.port with tx := .sendingReply octets doneAt true }
  | .idle => s
  | .gap _ => s

end Sys2Proof.Machine
end

