-- ==== Sys2Proof/Machine/Wheel.lean ====
section
/-! DEFINITION. Slot expiry and time steps (chapter 6). -/

namespace Sys2Proof.Machine

/-- R111, R112, R121: the outcome of a release by the scheduler state and the channel as they stand. A catch-up release
is LATE where a release at its own slot is DONE. -/
def State.releaseOutcome (s : State) (catchUp : Bool) (r : ActionRecord) : ActionOutcome :=
  match s.sched.state with
  | .running => if s.out.table[r.channel].enabled then (if catchUp then .late else .done) else .disabled
  | .frozen => .suppressed
  | .halted => .suppressed

/-- R111, R121: the action is handed to the channel when the outcome is DONE or LATE. -/
def State.drive (s : State) (r : ActionRecord) : ActionOutcome → State
  | .done | .late => s.applyAction r
  | .disabled | .suppressed | .expired | .dropped | .cancelled => s

/-- The Period of a record that repeats. A record whose Remaining is not spent by its outcome has one (R65). -/
def ActionRecord.step (r : ActionRecord) : Nat := (r.period.getD 1).toNat

/-- R110, R113, R114: the release of one record at its Due. -/
def State.releaseOne (s : State) (time : Ticks) (r : ActionRecord) : State :=
  let o := s.releaseOutcome false r
  let driven := s.drive r o
  let r' := r.count o
  if r'.remaining.spent then (driven.freeRecord r.id).offerCompletion r' o time
  else
    match driven.relink r' (r'.due + BitVec.ofNat 32 r'.step) with
    | some linked => linked.offerCompletion r' o time
    | none =>
      ((((driven.freeRecord r.id).offerCompletion r' o time).offerCompletion r' .dropped time).raise
        .repeatDropped time)

/-- One turn of a walk: the record of this number, as it stands at its turn, is released. -/
def State.releaseTurn (time : Ticks) (s : State) (id : Nat) : State :=
  match s.findRecord id with
  | some r => s.releaseOne time r
  | none => s

/-- R110: the walk of slot `n`: every record whose Due is `n` when the walk begins, in link order. -/
def State.walkSlot (s : State) (n : SlotNo) (time : Ticks) : State :=
  (((s.slotList (slotIndex n)).filter fun r => r.due = n).map (·.id)).foldl (State.releaseTurn time) s

/-- R76: the current slot number becomes the number an event carries. -/
def State.setSlot (s : State) (n : SlotNo) : State := s.setSched { s.sched with curSlot := n }

/-- R110: a slot expiry of slot `n`. In HALTED the wheel is empty and only the current slot number changes (R78). -/
def State.slotExpiry (s : State) (n : SlotNo) (time : Ticks) : State :=
  let t := s.setSlot n
  match t.sched.state with
  | .halted => t
  | .running => t.walkSlot n time
  | .frozen => t.walkSlot n time

/-! ## Time steps -/

/-- The state within a forward step, and whether the step has raised ACTIONS_EXPIRED (R122). -/
abbrev StepState := State × Bool

/-- An outcome of a forward step: its notice, and ACTIONS_EXPIRED after the notice of the step's first EXPIRED (R122). -/
def offerInStep (p : StepState) (r : ActionRecord) (o : ActionOutcome) (time : Ticks) : StepState :=
  let s := p.1.offerCompletion r o time
  if o = .expired && !p.2 then (s.raise .actionsExpired time, true) else (s, p.2)

/-- R123: m - 1, the grid slots that a step to `b` passes over after the record's passed slot: the whole part of
(b - Due) / Period. -/
def skippedFirings (r : ActionRecord) (b : SlotNo) : Nat := (b - r.due).toNat / r.step

/-- R123: the skipped firings spend the record. -/
def Remaining.spentBySkips (n : Nat) : Remaining → Bool
  | .times m => decide (m ≤ n)
  | .unlimited => false

/-- R121 to R123: one passed record of a forward step to `b`. -/
def passOne (catchUp : Bool) (b : SlotNo) (time : Ticks) (p : StepState) (r : ActionRecord) : StepState :=
  let s := p.1
  let o := if catchUp then s.releaseOutcome true r else .expired
  let driven := s.drive r o
  let r' := r.count o
  if r'.remaining.spent then offerInStep (driven.freeRecord r.id, p.2) r' o time
  else
    let skips := skippedFirings r' b
    if r'.remaining.spentBySkips skips then
      let freed : StepState := (driven.freeRecord r.id, p.2)
      if o = .expired then offerInStep freed r' o time
      else offerInStep (offerInStep freed r' o time) r' .expired time
    else
      let kept := { r' with remaining := r'.remaining.less skips }
      match driven.relink kept (r'.due + BitVec.ofNat 32 ((skips + 1) * r'.step)) with
      | some linked => offerInStep (linked, p.2) r' o time
      | none =>
        let q := offerInStep (offerInStep (driven.freeRecord r.id, p.2) r' o time) r' .dropped time
        (q.1.raise .repeatDropped time, q.2)

/-- One turn of a step: the record of this number, as it stands at its turn. -/
def passTurn (catchUp : Bool) (b : SlotNo) (time : Ticks) (p : StepState) (id : Nat) : StepState :=
  match p.1.findRecord id with
  | some r => passOne catchUp b time p r
  | none => p

/-- Insert a record before the first that lies no nearer to slot `a`: equal Dues keep their order. -/
def insertByDue (a : SlotNo) (r : ActionRecord) : List ActionRecord → List ActionRecord
  | [] => [r]
  | x :: rest => if (r.due - a).toNat ≤ (x.due - a).toNat then r :: x :: rest else x :: insertByDue a r rest

/-- R120: the passed records of a step of `k` slots from `a`, by increasing (Due - a) modulo 2^32 and, for equal Due,
in link order. -/
def State.passedRecords (s : State) (a : SlotNo) (k : Nat) : List ActionRecord :=
  (s.sched.wheel.filter fun r => 1 ≤ (r.due - a).toNat && (r.due - a).toNat < k).foldr (insertByDue a) []

/-- R119 to R124: the Scheduler takes a time step event from its current slot to `b`. -/
def State.timeStep (s : State) (b : SlotNo) (time : Ticks) : State :=
  let a := s.sched.curSlot
  let t := s.setSlot b
  let d := slotDistance a b
  match t.sched.state with
  | .halted => t
  | .running | .frozen =>
    if d < 1 then t
    else
      let k := d.toNat
      let catchUp := decide (k - 1 ≤ s.cfg.catchUpLimit)
      let p := ((t.passedRecords a k).map (·.id)).foldl (passTurn catchUp b time) (t, false)
      p.1.walkSlot b time

/-- R49, R50: after a change of line time or of the slot width, a time step event is raised if the slot number differs
from that of the last slot event (log 22). -/
def State.slotMoved (s : State) : State :=
  if s.slotNow = s.sched.curSlot then s else s.timeStep s.slotNow s.lineTime

end Sys2Proof.Machine
end

