-- ==== Sys2Proof/Machine/Sync.lean ====
section
/-! DEFINITION. The Time Base: taking a SYNC, the sync state machine and the two timers (chapter 3). -/

namespace Sys2Proof.Machine

/-- R52: MasterTime plus Correction, extended to 48 bits. -/
def measuredTime : List Octet → Ticks
  | m0 :: m1 :: m2 :: m3 :: m4 :: m5 :: c0 :: c1 :: c2 :: c3 :: _ =>
    (m0 ++ m1 ++ m2 ++ m3 ++ m4 ++ m5 : BitVec 48) + (c0 ++ c1 ++ c2 ++ c3 : BitVec 32).signExtend 48
  | _ => 0

/-- R55: an error is small when its magnitude is at most StepLimit. -/
def State.smallError (s : State) (e : Ticks) : Bool := decide (e.toInt.natAbs ≤ s.cfg.stepLimit)

/-- The expiry instant of a SyncTimeout timer started now (R58). -/
def State.syncDeadline (s : State) : Ticks := s.ticksAhead (msTicks s.cfg.syncTimeout)

/-- R53 with the sync state the machine goes to: the offset moves by the error, the reference instant is the measured
time, the outlier count is 0; the SyncTimeout timer is started or restarted (R58) and HOLDOVER, if left, stops its
timer (R59). -/
def State.stepTo (s : State) (st : SyncState) (m e : Ticks) : State :=
  s.setTime { s.time with
    offset := s.time.offset + e, sync := st, outliers := 0, reference := some m,
    syncTimer := some s.syncDeadline, holdoverTimer := none }

/-- R56: an outlier in LOCKED: no step; the timer restarts. -/
def State.outlier (s : State) : State :=
  s.setTime { s.time with outliers := s.time.outliers + 1, syncTimer := some s.syncDeadline }

/-- R49, R53: after a step by `e` a time step event is raised if the slot number has moved. A step with `e` = 0 raises
none: a boundary that line time has reached is then still to come as a boundary. -/
def State.afterStep (s : State) (e : Ticks) : State := if e = 0 then s else s.slotMoved

/-- Section 3.4: an accepted SYNC with measured time `m` and error `e`. SYNC_JUMP is raised within the Time Base's
event, before the Scheduler takes the time step (R161), and is stamped with line time after the step (R170). -/
def State.syncMachine (s : State) (m e : Ticks) : State :=
  match s.time.sync with
  | .unsynced => ((s.stepTo .acquiring m e).deactivate .syncLost).afterStep e
  | .acquiring => (s.stepTo (if s.smallError e then .locked else .acquiring) m e).afterStep e
  | .locked =>
    if s.smallError e then (s.stepTo .locked m e).afterStep e
    else if s.time.outliers < 2 then s.outlier
    else
      let t := s.stepTo .acquiring m e
      (t.raise .syncJump t.lineTime).afterStep e
  | .holdover =>
    if s.smallError e then (s.stepTo .locked m e).afterStep e
    else
      let t := s.stepTo .acquiring m e
      (t.raise .syncJump t.lineTime).afterStep e

/-- R51: a broadcast SYNC is accepted from TimeSource with a payload of 11 octets. -/
def State.acceptsSync (s : State) (src : Octet) (payload : List Octet) : Bool :=
  src = s.cfg.timeSource && payload.length = 11

/-- R52: the measured time of a SYNC payload. -/
def State.measure (s : State) (payload : List Octet) : Ticks :=
  measuredTime payload + BitVec.ofNat 48 s.cfg.linkDelay

/-- R51, R52: an accepted SYNC is measured and taken by the state machine; any other leaves the Time Base as it was. -/
def State.takeSync (s : State) (src : Octet) (arrival : Ticks) (payload : List Octet) : State :=
  if s.acceptsSync src payload then s.syncMachine (s.measure payload) (s.measure payload - arrival) else s

/-- A timer that is running and whose instant has been reached. -/
def State.timerDue (s : State) (timer : Option Ticks) : Bool :=
  match timer with
  | some t => reached s.time.localCount t
  | none => false

/-- R54: UNSYNCED is entered: the reference becomes invalid and both timers stop. -/
def State.enterUnsynced (s : State) : State :=
  s.setTime { s.time with sync := .unsynced, reference := none, syncTimer := none, holdoverTimer := none }

/-- R57: HOLDOVER is entered from LOCKED. -/
def State.enterHoldover (s : State) : State :=
  s.setTime { s.time with
    sync := .holdover, outliers := 0, syncTimer := none,
    holdoverTimer := some (s.ticksAhead (msTicks s.cfg.holdoverLimit)) }

/-- R58: the SyncTimeout timer expires. -/
def State.syncTimeout (s : State) : State :=
  match s.time.sync with
  | .acquiring => s.enterUnsynced
  | .locked => s.enterHoldover
  | .unsynced => s
  | .holdover => s

/-- R59, R61: the holdover timer expires: UNSYNCED, and SYNC_LOST raised with its condition active. -/
def State.holdoverEnd (s : State) : State :=
  match s.time.sync with
  | .holdover => (s.enterUnsynced.activate .syncLost).raise .syncLost s.lineTime
  | .unsynced => s
  | .acquiring => s
  | .locked => s

end Sys2Proof.Machine
end

