-- ==== Sys2Proof/Machine/Requests.lean ====
section
/-! DEFINITION. What the owning blocks do with a taken request (chapters 5 to 10), and the tests of the Classifier that
decide whether it is taken (R29 to R33). -/

namespace Sys2Proof.Machine

/-! ## SCHEDULE (chapter 5) -/

/-- R82: the line time with these low 32 bits that lies nearest `now`; the earlier of two equally near. -/
def extendTarget (now : Ticks) (target : BitVec 32) : Ticks :=
  now + (target - now.setWidth 32).signExtend 48

/-- The Due of a descriptor in its mode (R82 to R84). -/
def State.dueOf (s : State) (mode : TimeMode) (arrivalSlot : SlotNo) (target : BitVec 32) : SlotNo :=
  match mode with
  | .abs => slotOf s.cfg.slotExp (extendTarget s.lineTime target)
  | .ref => slotOf s.cfg.slotExp (s.time.reference.getD 0 + target.setWidth 48)
  | .arrival => arrivalSlot + target

/-- R86, checks 7 and 8: whether the mode has the time it needs. -/
def State.timeRefused (s : State) : TimeMode → Option DescResult
  | .abs =>
    match s.time.sync with
    | .unsynced => some .noTime
    | .acquiring => some .noTime
    | .locked => none
    | .holdover => none
  | .ref => if s.time.reference = none then some .noReference else none
  | .arrival => none

/-- R86, checks 9 and 10 on the Due (R84, R90). In ARRIVAL mode a Target of 0 fails check 9 and one above 255 fails
check 10; check 9 is made first (log 12). -/
def State.dueRefused (s : State) (mode : TimeMode) (target : BitVec 32) (due : SlotNo) : Option DescResult :=
  let d := slotDistance s.sched.curSlot due
  let arrival := decide (mode = .arrival)
  if d < (s.cfg.lead : Int) || (arrival && target = 0) then some .tooEarly
  else if (s.cfg.window : Int) < d || (arrival && 255 < target.toNat) then some .tooLate
  else none

/-- R86, checks 4 to 6 on the action of a descriptor, for the channel's entry. -/
def actionRefused (e : ChannelEntry) (d : Descriptor) : Except DescResult ActionKind :=
  match ActionKind.ofCode d.action with
  | none => .error .actionRefused
  | some k =>
    if !e.actionMask.getLsbD k.maskBit then .error .actionRefused
    else if k = .pulse && (d.width.toNat = 0 || e.maxPulse.toNat < d.width.toNat) then .error .widthRange
    else if d.count ≠ 1 && d.period = 0 then .error .badRepeat
    else .ok k

/-- R86, checks 1 to 10: the first that fails, or the channel, the action and the Due of a descriptor that passes.
A Mode of 3 never comes here (R31). -/
def State.judge (s : State) (mask : BitVec 16) (arrivalSlot : SlotNo) (d : Descriptor) :
    Except DescResult (Fin 16 × ActionKind × SlotNo) :=
  if h : d.channel.toNat < 16 then
    let ch : Fin 16 := ⟨d.channel.toNat, h⟩
    if !mask.getLsbD ch.val then .error .notPermitted
    else if !s.out.table[ch].enabled then .error .channelDisabled
    else
      match actionRefused s.out.table[ch] d, descMode d with
      | .error r, _ => .error r
      | .ok _, none => .error .noTime
      | .ok k, some mode =>
        match s.timeRefused mode with
        | some r => .error r
        | none =>
          let due := s.dueOf mode arrivalSlot d.target
          match s.dueRefused mode d.target due with
          | some r => .error r
          | none => .ok (ch, k, due)
  else .error .noChannel

/-- R65: Remaining from a descriptor's Count. -/
def remainingOf (count : Half) : Remaining := if count = 0 then .unlimited else .times count.toNat

/-- R64, R65: the record of a descriptor; a single shot has no Period. -/
def lineRecord (src : Octet) (d : Descriptor) (ch : Fin 16) (k : ActionKind) (due : SlotNo) (id : Nat) : ActionRecord :=
  { id := id, due := due, channel := ch, action := k.withWidth (d.width.setWidth 24), tag := d.tag, origin := .line src,
    period := if d.count = 1 then none else some d.period, remaining := remainingOf d.count, fired := 0,
    report := descReport d }

/-- R86, R91: one descriptor: the checks, then POOL_EMPTY and SLOT_FULL, then the admission. -/
def State.admitDesc (s : State) (src : Octet) (mask : BitVec 16) (arrivalSlot : SlotNo) (d : Descriptor) :
    DescResult × State :=
  match s.judge mask arrivalSlot d with
  | .error r => (r, s)
  | .ok (ch, k, due) =>
    if s.sched.free = [] then (.poolEmpty, s)
    else
      match s.linkRecord (lineRecord src d ch k due) with
      | some t => (.accepted, t)
      | none => (.slotFull, s)

/-- R92: each descriptor on its own. -/
def State.admitEach (s : State) (src : Octet) (mask : BitVec 16) (arrivalSlot : SlotNo) :
    List Descriptor → List DescResult × State
  | [] => ([], s)
  | d :: ds =>
    let (r, t) := s.admitDesc src mask arrivalSlot d
    let (rs, u) := t.admitEach src mask arrivalSlot ds
    (r :: rs, u)

/-- R93: all of the descriptors or none. `linked` are the records of the descriptors before, in order. -/
def State.admitAll (s : State) (src : Octet) (mask : BitVec 16) (arrivalSlot : SlotNo) (linked : List Nat) :
    List Descriptor → List DescResult × State
  | [] => (linked.map fun _ => .accepted, s)
  | d :: ds =>
    match s.admitDesc src mask arrivalSlot d with
    | (.accepted, t) => t.admitAll src mask arrivalSlot (linked ++ [s.sched.free.headD 0]) ds
    | (r, _) =>
      (linked.map (fun _ => .withdrawn) ++ r :: ds.map (fun _ => .notAttempted), linked.foldl State.freeRecord s)

/-- R80, R92 to R94: a taken SCHEDULE. -/
def State.takeSchedule (s : State) (src : Octet) (mask : BitVec 16) (arrival : Ticks) (flags : Octet)
    (ds : List Descriptor) : List DescResult × State :=
  if s.sched.state = .halted then (ds.map fun _ => .halted, s)
  else if flags.getLsbD 0 then s.admitAll src mask (slotOf s.cfg.slotExp arrival) [] ds
  else s.admitEach src mask (slotOf s.cfg.slotExp arrival) ds

/-! ## CANCEL (R97, R98) -/

/-- R97: a record that a CANCEL removes. -/
def cancelMatches (selector : Octet) (tag : Half) (channel : Octet) (mask : BitVec 16) (r : ActionRecord) : Bool :=
  mask.getLsbD r.channel.val &&
  (if selector = 1 then r.tag = tag else if selector = 2 then r.channel.val = channel.toNat else true)

/-- R98: the linked records from the list after the current slot's, round the wheel to the current slot's. -/
def State.walkOrder (s : State) : List ActionRecord :=
  (List.range 256).flatMap fun k => s.slotList (slotIndex s.sched.curSlot + 1 + BitVec.ofNat 8 k)

/-- R98: one record is removed as CANCELLED. -/
def State.cancelTurn (time : Ticks) (s : State) (id : Nat) : State :=
  match s.findRecord id with
  | some r => (s.freeRecord id).offerCompletion r .cancelled time
  | none => s

/-- R98: a taken CANCEL; the count of records removed, and the state. -/
def State.takeCancel (s : State) (selector : Octet) (tag : Half) (channel : Octet) (mask : BitVec 16) : Nat × State :=
  let ids := (s.walkOrder.filter (cancelMatches selector tag channel mask)).map (·.id)
  (ids.length, ids.foldl (State.cancelTurn s.lineTime) s)

/-! ## POLL (R149) -/

/-- R149: the acknowledgement: when AckSeq lies in the reported span (R148), the records up to it leave the ring. -/
def CaptureUnit.acknowledge (c : CaptureUnit) (ackValid : Octet) (ackSeq : Half) : CaptureUnit :=
  if ackValid.getLsbD 0 then
    match c.highest.bind c.position, c.position ackSeq with
    | some top, some p => if p ≤ top then { c with ring := c.ring.drop (p + 1) } else c
    | _, _ => c
  else c

/-! ## WRITE (section 10.3) -/

/-- R186, R202: a CONFIG value put into the field of its index; none when it is out of range. -/
def ConfigFields.put (c : ConfigFields) (index v : Nat) : Option ConfigFields :=
  match index with
  | 0 => if 8 ≤ v ∧ v ≤ 16 then some { c with slotExp := v } else none
  | 1 => if 1 ≤ v ∧ v ≤ 16 ∧ v ≤ c.window then some { c with lead := v } else none
  | 2 => if c.lead ≤ v ∧ v ≤ 255 then some { c with window := v } else none
  | 3 => if v ≤ 64 then some { c with catchUpLimit := v } else none
  | 4 => if 1 ≤ v ∧ v ≤ 65535 then some { c with stepLimit := v } else none
  | 5 => if 1 ≤ v ∧ v ≤ 255 then some { c with syncTimeout := v } else none
  | 6 => if 1 ≤ v ∧ v ≤ 65535 then some { c with holdoverLimit := v } else none
  | 7 => if v ≤ 65535 then some { c with linkDelay := v } else none
  | 8 => (LineRate.ofCode v).map fun r => { c with lineRate := r }
  | 9 => if 1 ≤ v ∧ v ≤ 8 then some { c with arbiterRatio := v } else none
  | 10 => if 1 ≤ v ∧ v ≤ 255 then some { c with lineErrorLimit := v } else none
  | 11 => if 1 ≤ v ∧ v ≤ 255 then some { c with replyHops := v } else none
  | 12 => if v ≤ 0xFE then some { c with reportAddress := BitVec.ofNat 8 v } else none
  | 13 => if v ≤ 0xFE then some { c with timeSource := BitVec.ofNat 8 v } else none
  | 14 => (boolOfNat v).map fun b => { c with reportAbnormal := b }
  | 15 => (boolOfNat v).map fun b => { c with faultNotices := b }
  | n =>
    (boolOfNat v).map fun b =>
      { c with responses := c.responses.set (Fin.ofNat 8 (n - 16)) (if b then Response.freeze else Response.note) }

/-- R182, R186, R187: a WRITE of CONFIG. SlotExp needs HALTED and may raise a time step event when it is changed (R50),
and none when it is written to the value it holds; LineErrorLimit re-evaluates its condition (R19). -/
def State.writeConfig (s : State) (index : Octet) (value : Half) : MgmtResult × State :=
  if 24 ≤ index.toNat then (.noObject, s)
  else
    match s.cfg.put index.toNat value.toNat with
    | none => (.range, s)
    | some c =>
      if index = 0 then
        if s.sched.state = .halted then
          (.ok, if c.slotExp = s.cfg.slotExp then s.setCfg c else (s.setCfg c).slotMoved)
        else (.state, s)
      else if index = 10 then (.ok, (s.setCfg c).evalLineErrors)
      else (.ok, s.setCfg c)

/-- The entry that a written ADDRESS value stands for (R184, R201). -/
def AddressValue.entry (v : Sys2Proof.AddressValue) : Option Station :=
  if v.flags.getLsbD 7 then none
  else some { address := v.address, mask := v.mask, sched := v.flags.getLsbD 0, capt := v.flags.getLsbD 1,
              mgmt := v.flags.getLsbD 2 }

/-- R184: another entry, not EMPTY, holds the Address. -/
def duplicateAddress (t : Vector (Option Station) 8) (n : Fin 8) (address : Octet) : Bool :=
  (List.finRange 8).any fun i => i != n && (match t[i] with | some e => e.address == address | none => false)

/-- R22, R184: some non-EMPTY entry has MGMT. -/
def hasManagement (t : Vector (Option Station) 8) : Bool :=
  t.toList.any fun o => match o with | some e => e.mgmt | none => false

/-- R184: a WRITE of ADDRESS `n`. -/
def State.writeAddress (s : State) (n : Fin 8) (v : AddressValue) : MgmtResult × State :=
  let e := AddressValue.entry v
  let t := s.addr.set n e
  if e.isSome && (v.address = 0x00 || v.address = 0xFF) then (.range, s)
  else if e.isSome && duplicateAddress s.addr n v.address then (.duplicate, s)
  else if !hasManagement t then (.lockout, s)
  else (.ok, s.setAddr t)

/-- R138, R183: a WRITE of CHANNEL `n`: the entry is replaced; going from on to off sets the channel INACTIVE and ends
any pulse. -/
def State.writeChannel (s : State) (n : Fin 16) (v : ChannelValue) : MgmtResult × State :=
  match SafeLevel.ofCode v.safeLevel with
  | none => (.range, s)
  | some sl =>
    if v.maxPulse = 0 then (.range, s)
    else
      let e : ChannelEntry :=
        { enabled := v.flags.getLsbD 0, invert := v.flags.getLsbD 1, safeLevel := sl,
          actionMask := v.actionMask.setWidth 4, maxPulse := v.maxPulse }
      let disabling := s.out.table[n].enabled && !e.enabled
      let c := s.out.chans[n]
      let c' := if disabling then { c with level := false, pulseEnd := none } else c
      (.ok, s.setOut { table := s.out.table.set n e, chans := s.out.chans.set n c' })

/-- R183, R201: the entry that a written TRIGGER value stands for; none when a field is out of its range. -/
def TriggerValue.entry (v : Sys2Proof.TriggerValue) : Option TriggerEntry :=
  match EdgeSelect.ofCode v.edge, ActionKind.ofCode v.action with
  | some ed, some k =>
    if 8 ≤ v.line.toNat ∨ 16 ≤ v.channel.toNat ∨ v.width = 0 ∨ v.delay = 0 then none
    else some { enabled := v.flags.getLsbD 0, line := Fin.ofNat 8 v.line.toNat, edge := ed,
                channel := Fin.ofNat 16 v.channel.toNat, action := k, width := v.width, delay := v.delay,
                oneShot := v.flags.getLsbD 1, report := v.flags.getLsbD 2 }
  | _, _ => none

/-- R154, R183: a WRITE of TRIGGER `n`. -/
def State.writeTrigger (s : State) (n : Fin 8) (v : TriggerValue) : MgmtResult × State :=
  match TriggerValue.entry v with
  | none => (.range, s)
  | some e => (.ok, s.setCap { s.cap with triggers := s.cap.triggers.set n e })

/-- R141, R183: a WRITE of CAPTURE_CONFIG. -/
def State.writeCaptureConfig (s : State) (v : CaptureValue) : MgmtResult × State :=
  if v.edges.toList.all fun c => (EdgeSelect.ofCode c).isSome then
    (.ok, s.setCap { s.cap with
      enable := v.enable, edges := v.edges.map fun c => (EdgeSelect.ofCode c).getD .rising,
      filterTime := v.filterTime })
  else (.range, s)

/-- R166: an acknowledgement clears the named flags whose condition is not active. -/
def FaultSet.acknowledge (f : FaultSet) (mask : Octet) : FaultSet :=
  { f with latched := f.latched &&& ~~~(mask &&& ~~~f.active) }

/-- R182: a taken WRITE: the reply body and the state. -/
def State.takeWrite (s : State) : ObjWrite → List Octet × State
  | .plain o i => ([(if objectExists o i then MgmtResult.readOnly else MgmtResult.noObject).code], s)
  | .config i v => let (r, t) := s.writeConfig i v; ([r.code], t)
  | .address n v => let (r, t) := s.writeAddress n v; ([r.code], t)
  | .channel n v => let (r, t) := s.writeChannel n v; ([r.code], t)
  | .trigger n v => let (r, t) := s.writeTrigger n v; ([r.code], t)
  | .captureConfig v => let (r, t) := s.writeCaptureConfig v; ([r.code], t)
  | .fault m =>
    let f := s.faults.acknowledge m
    ([MgmtResult.ok.code, f.latched], s.setFaults f)

/-! ## CONTROL (sections 6.1, 10.1, 10.5) -/

/-- R103, R105: START from HALTED, or RESUME from FROZEN, unless a FREEZE-response fault is latched. -/
def State.run (s : State) (from' : SchedState) : MgmtResult × State :=
  if s.sched.state = from' ∧ s.freezeLatched = false then (.ok, s.setSched { s.sched with state := .running })
  else (.state, s)

/-- R104: HALT. In HALTED it changes nothing. -/
def State.haltNow (s : State) : State :=
  match s.sched.state with
  | .halted => s
  | .running | .frozen => (s.clearRecords).setSched { (s.clearRecords).sched with state := .halted }

/-- R106: SAFE. -/
def State.safeNow (s : State) : State :=
  match s.sched.state with
  | .running => (s.setSched { s.sched with state := .frozen }).safeDrive
  | .frozen => s.safeDrive
  | .halted => s.safeDrive

/-- R108: CLEAR_WHEEL. In HALTED it changes nothing. -/
def State.clearWheelNow (s : State) : State :=
  match s.sched.state with
  | .halted => s
  | .running => s.clearRecords
  | .frozen => s.clearRecords

/-- R177: CLAIM. It is taken from the owner, or while the node is unclaimed. -/
def State.claimFor (s : State) (src : Octet) : MgmtResult × State :=
  if s.owner = 0xFF then
    if src = 0xFF then (.range, s) else (.ok, s.setOwner src)
  else (.ok, s)

/-- R178: RELEASE. -/
def State.releaseBy (s : State) (src : Octet) : MgmtResult × State :=
  if s.owner = src then (.ok, s.setOwner 0xFF) else (.ok, s)

/-- R188: a command other than RESTART, which takes effect later (R190): its result and the state. -/
def State.command (s : State) (src : Octet) : Command → MgmtResult × State
  | .start => s.run .halted
  | .halt => (.ok, s.haltNow)
  | .resume => s.run .frozen
  | .safe => (.ok, s.safeNow)
  | .clearWheel => (.ok, s.clearWheelNow)
  | .claim => s.claimFor src
  | .release => s.releaseBy src
  | .restart => (.ok, s)

/-- R39, R190: a unicast RESTART is taken: its reply goes to the head of the Reply Queue, and unless a mark is held the
mark is set on its frame in the Forward Queue, where it is the newest, or, when it arrived with Hops 0, on the reply. -/
def State.takeRestart (s : State) (h : ReqHeader) (hops : Octet) : State :=
  let unmarked := !s.markHeld
  let d : ReplyDesc :=
    { replyTo h .reply (.fixed [MgmtResult.ok.code]) with restartReply := true, restartMark := unmarked && hops = 0 }
  let t := s.queueReplyFirst d
  if unmarked && hops ≠ 0 then t.setPort { t.port with forward := markLast t.port.forward } else t

/-- R39, R190: a broadcast RESTART is classified: the mark goes on its frame in the Forward Queue, or with Hops 0 on the
item being sent; with none being sent RESTART takes effect at once. -/
def State.takeBroadcastRestart (s : State) (hops : Octet) : State :=
  if s.markHeld then s
  else if hops ≠ 0 then s.setPort { s.port with forward := markLast s.port.forward }
  else
    match s.port.tx with
    | .sendingForward _ _ => s.markSending
    | .sendingReply _ _ _ => s.markSending
    | .idle => s.restartEffect
    | .gap _ => s.restartEffect

/-! ## Taking a request (R29 to R33) -/

/-- R33: a request that is taken is performed by its owning block, and one reply descriptor joins the Reply Queue. -/
def State.perform (s : State) (h : ReqHeader) (mask : BitVec 16) (arrival : Ticks) (hops : Octet) : Request → State
  | .schedule flags ds =>
    let (rs, t) := s.takeSchedule h.src mask arrival flags ds
    t.queueReply (replyTo h .reply (.fixed (BitVec.ofNat 8 ds.length :: rs.map DescResult.code)))
  | .cancel sel tag ch =>
    let (n, t) := s.takeCancel sel tag ch mask
    t.queueReply (replyTo h .reply (.fixed (octetsOfNat 2 n)))
  | .poll av seq mc =>
    (s.setCap (s.cap.acknowledge av seq)).queueReply (replyTo h .report (.report mc))
  | .read o i =>
    s.queueReply (replyTo h .reply (.read (if objectExists o i then .ok else .noObject) o i))
  | .write w =>
    let (body, t) := s.takeWrite w
    t.queueReply (replyTo h .reply (.fixed body))
  | .control .restart => s.takeRestart h hops
  | .control c =>
    let (r, t) := s.command h.src c
    t.queueReply (replyTo h .reply (.fixed [r.code]))

/-- R27, R30: an Src is authorised when the node is unclaimed or the Src is the owner. -/
def State.authorised (s : State) (src : Octet) : Bool := s.owner = 0xFF || src = s.owner

/-- The decision of step 6 of the classification. -/
inductive Verdict where
  /-- 6a, 6b: no Mark is written. -/
  | carried
  /-- 6c to 6g: this Mark, and nothing is done. -/
  | marked (m : Octet)
  /-- 6h: TAKEN. -/
  | taken (r : Request)
deriving DecidableEq, Repr

/-- R29 to R33: the ordered list of step 6, for a frame to entry `e`. -/
def State.verdict (s : State) (e : Station) (src kind mark : Octet) (parsed : Option Request) : Verdict :=
  if mark ≠ markClear then .carried
  else if 0x80 ≤ kind.toNat then .carried
  else if !requestKind kind then .marked markMalformed
  else if !kindPermitted e kind then .marked markRefused
  else if kindOwned kind && !s.authorised src then .marked markRefused
  else
    match parsed with
    | none => .marked markMalformed
    | some r =>
      if !r.wellFormed then .marked markMalformed
      else if Config.replyPlaces ≤ s.port.replies.length then .marked markBusy
      else .taken r

/-- R22: the entry a Dest matches. -/
def State.station (s : State) (dest : Octet) : Option Station :=
  s.addr.toList.findSome? fun o =>
    match o with
    | some e => if e.address = dest then some e else none
    | none => none

/-- A request as its owning block meets it, without its frame: the tests of step 6, and if it is taken, its performance
and the end of the event. A request that is not taken does nothing (R32; log 6). -/
def State.request (s : State) (h : ReqHeader) (arrival : Ticks) (r : Request) : State :=
  match s.station h.dest with
  | none => s
  | some e =>
    match s.verdict e h.src r.kind markClear (some r) with
    | .taken q => (s.perform h e.mask arrival 0 q).settle
    | .carried => s
    | .marked _ => s

/-- R27, R189: a broadcast CONTROL with a command: acted on when the command has a broadcast form and its Src is
authorised. -/
def State.broadcast (s : State) (src : Octet) (hops : Octet) (c : Command) : State :=
  if c.hasBroadcast && s.authorised src then
    match c with
    | .restart => s.takeBroadcastRestart hops
    | c => (s.command src c).2
  else s

/-- A CONTROL command as its block meets it: broadcast when its Dest is 0xFF, else a request (R27, R188). -/
def State.control (s : State) (h : ReqHeader) (c : Command) : State :=
  if h.dest = 0xFF then s.broadcast h.src 0 c else s.request h s.lineTime (.control c)

end Sys2Proof.Machine
end

