-- ==== Sys2Proof/Machine/Capture.lean ====
section
/-! DEFINITION. Input capture and local triggers (chapter 8): the meanings of CAPTURE_INPUT_CHANGE and
QUALIFIED_EDGE. -/

namespace Sys2Proof.Machine

/-- One bit of the pins takes a level. -/
def setPin (pins : BitVec 8) (n : Fin 8) (level : Bool) : BitVec 8 :=
  if level then pins ||| ((1 : BitVec 8) <<< n.val) else pins &&& ~~~((1 : BitVec 8) <<< n.val)

/-- R142, R144: the filter of a line sees a level at local count `now`: a level that differs from the filtered level
begins a candidate when none is held, with the duration FilterTime gives now; the filtered level abandons one. -/
def LineFilter.see (f : LineFilter) (now : Ticks) (filterTime : Octet) (level : Bool) : LineFilter :=
  match f.candidate with
  | none =>
    if level = f.filtered then f
    else { f with candidate := some { level := level, start := now, duration := filterTime.setWidth 48 * 4 } }
  | some _ => if level = f.filtered then { f with candidate := none } else f

/-- CAPTURE_INPUT_CHANGE (R142): a line's input is sampled at this level. Before the first tick after release there is
no filtered level to compare with, and only the pin moves. -/
def execCaptureInputChange (line : Fin 8) (level : Bool) (s : State) : Host.Outcome State Fault Refusal :=
  answer s <|
    let pins := setPin s.cap.pins line level
    if s.cap.sampled then
      s.setCap { s.cap with
        pins := pins
        lines := s.cap.lines.set line (s.cap.lines[line].see s.time.localCount s.cap.filterTime level) }
    else s.setCap { s.cap with pins := pins }

/-- R147: a record is stored at the tail with the next Seq and the Gap flag, or lost to a full ring. -/
def CaptureUnit.store (c : CaptureUnit) (line : Fin 8) (edge : Edge) (time : Ticks) (sync : SyncState) : CaptureUnit :=
  if c.ring.length < Config.ringPlaces then
    { c with
      ring := c.ring ++ [{ seq := c.nextSeq, line := line, edge := edge, time := time, sync := sync, gap := c.gapPending }]
      nextSeq := c.nextSeq + 1
      gapPending := false }
  else { c with gapPending := true }

/-- R145: the line stores edges of this direction. -/
def CaptureUnit.stores (c : CaptureUnit) (line : Fin 8) (edge : Edge) : Bool :=
  c.enable.getLsbD line.val && c.edges[line].takes edge

/-- R145: an entry that is enabled, names the line, and takes the direction. -/
def TriggerEntry.matches (e : TriggerEntry) (line : Fin 8) (edge : Edge) : Bool :=
  e.enabled && e.line = line && e.edge.takes edge

/-- R64, R155: the record that trigger `n` admits. -/
def triggerRecord (n : Fin 8) (e : TriggerEntry) (due : SlotNo) (id : Nat) : ActionRecord :=
  { id := id, due := due, channel := e.channel, action := e.action.withWidth e.width, tag := BitVec.ofNat 16 n.val,
    origin := .trigger n, period := none, remaining := .times 1, fired := 0, report := e.report }

/-- R157: a OneShot entry that has admitted a record is disarmed. -/
def State.disarm (s : State) (n : Fin 8) (e : TriggerEntry) : State :=
  if e.oneShot then s.setCap { s.cap with triggers := s.cap.triggers.set n { e with enabled := false } } else s

/-- R155 to R158: one entry of the Trigger Table, as it and the scheduler state stand at its turn. -/
def State.triggerTurn (line : Fin 8) (edge : Edge) (s : State) (n : Fin 8) : State :=
  let e := s.cap.triggers[n]
  if e.matches line edge && s.sched.state = .running then
    match s.linkRecord (triggerRecord n e (s.sched.curSlot + e.delay.setWidth 32)) with
    | some t => t.disarm n e
    | none => s.raise .triggerMissed s.lineTime
  else s

/-- The direction of a change to a level (R145). -/
def edgeTo (level : Bool) : Edge := if level then .rising else .falling

/-- R142, R143, R145: a candidate qualifies: the filtered level becomes its level, the record is offered to the ring with
line time less the candidate's duration, and the Trigger Table is examined in index order. -/
def State.qualify (s : State) (line : Fin 8) (c : Candidate) : State :=
  let edge := edgeTo c.level
  let seen := s.setCap { s.cap with lines := s.cap.lines.set line { filtered := c.level, candidate := none } }
  let stored :=
    if seen.cap.stores line edge then
      seen.setCap (seen.cap.store line edge (s.lineTime - c.duration) s.time.sync)
    else seen
  (List.finRange 8).foldl (State.triggerTurn line edge) stored

/-- QUALIFIED_EDGE (R145): the line's candidate has held for its duration. -/
def execQualifiedEdge (line : Fin 8) (s : State) : Host.Outcome State Fault Refusal :=
  answer s <|
    match s.cap.lines[line].candidate with
    | some c => if reached s.time.localCount (c.start + c.duration) then (s.qualify line c).settle else s
    | none => s

end Sys2Proof.Machine
end

