-- ==== Sys2Proof/Machine/PortEvents.lean ====
section
/-! DEFINITION. The events of the Output Port (chapter 2, section 10.6): the meanings of NOTICE_DESCRIPTOR_PLACE,
FE_SENT, GAP_END and RESTART_EFFECT. -/

namespace Sys2Proof.Machine

/-- NOTICE_DESCRIPTOR_PLACE (R38): the Notice Unit examines its conditions, and an IDLE transmitter takes the descriptor
it places (R40). -/
def execNoticeDescriptorPlace (s : State) : Host.Outcome State Fault Refusal := answer s s.settle

/-- FE_SENT (R40, R43): the FE of the frame being sent has gone out. -/
def execFeSent (s : State) : Host.Outcome State Fault Refusal :=
  answer s (if s.sendingDone then s.endTransmission else s)

/-- GAP_END (R41): the gap has run out and the arbiter chooses. -/
def execGapEnd (s : State) : Host.Outcome State Fault Refusal :=
  answer s <|
    match s.port.tx with
    | .gap endsAt => if reached s.time.localCount endsAt then s.arbitrate.settle else s
    | .idle => s
    | .sendingForward _ _ => s
    | .sendingReply _ _ _ => s

/-- RESTART_EFFECT (R192): the marked transmission ends and the pending RESTART takes effect. -/
def execRestartEffect (s : State) : Host.Outcome State Fault Refusal :=
  answer s (if s.sendingMarked && s.sendingDone then s.endTransmission else s)

end Sys2Proof.Machine
end

