-- ==== Sys2Proof/Machine/Classify.lean ====
section
/-! DEFINITION. The Classifier: one good frame, taken whole as one event (sections 2.2 and 2.3). -/

namespace Sys2Proof.Machine

/-- A frame handed over by the receiver, with its arrival (R17). -/
structure Received where
  frame         : Frame
  arrival       : Ticks
  arrivalOffset : Ticks
deriving DecidableEq, Repr

/-- R16: a buffer that no one holds any more joins the free set. -/
def State.releaseBuffer (s : State) : State := s.setRx { s.rx with freeBuffers := s.rx.freeBuffers + 1 }

/-- R35, step 7: a frame that arrived with Hops of 1 or more joins the tail of the Forward Queue with one less and with
this Mark; with Hops 0 its buffer is freed. -/
def State.dispose (s : State) (f : Received) (mark : Octet) : State :=
  if f.frame.hops = 0 then s.releaseBuffer
  else
    let sent := { f.frame with hops := f.frame.hops - 1, mark := mark }
    s.setPort { s.port with forward := s.port.forward ++
      [{ frame := sent, arrival := f.arrival, arrivalOffset := f.arrivalOffset, restartMark := false }] }

/-- R25: the Src is the Address of an entry. -/
def State.ownsAddress (s : State) (src : Octet) : Bool := (s.station src).isSome

/-- R24, steps 1 to 7, with the buffer held by the frame: own-frame removal, the Time Base, a broadcast CONTROL, a frame
for elsewhere, or step 6. The buffer is disposed of and the action taken in the one event; RESTART taken at once comes
after its buffer's return (R190). -/
def State.classify (s : State) (f : Received) : State :=
  let fr := f.frame
  if 0x80 ≤ fr.kind.toNat ∧ s.ownsAddress fr.src then s.releaseBuffer
  else if fr.dest = 0xFF then
    let kept := s.dispose f fr.mark
    if fr.kind = kindSync then kept.takeSync fr.src f.arrival fr.payload
    else if fr.kind = kindControl then
      match parseRequest kindControl fr.payload with
      | some (.control c) => kept.broadcast fr.src fr.hops c
      | _ => kept
    else kept
  else
    match s.station fr.dest with
    | none => s.dispose f fr.mark
    | some e =>
      match s.verdict e fr.src fr.kind fr.mark (parseRequest fr.kind fr.payload) with
      | .carried => s.dispose f fr.mark
      | .marked m => s.dispose f m
      | .taken r =>
        (s.dispose f markTaken).perform { dest := fr.dest, src := fr.src, seq := fr.seq } e.mask f.arrival fr.hops r

end Sys2Proof.Machine
end

