-- ==== Sys2Proof/Machine/Receiver.lean ====
section
/-! DEFINITION. The Line Receiver (chapter 1) and reset (section 10.7): the meanings of RESET_N_LOW, RESET_RELEASE,
SETTLING_END, SETTLING_WAIT_RESTART, BREAK, BREAK_END, FS, DATA_CHARACTER, ERROR_CHARACTER and FE. -/

namespace Sys2Proof.Machine

/-! ## Reset -/

/-- RESET_N_LOW (R195): every block is held at its reset state; the waiting commands and the free choices are the
model's own and stay. The straps are not read yet (log 16). -/
def execResetNLow (s : State) : Host.Outcome State Fault Refusal :=
  .next { State.released 0 s.cap.pins with resetHeld := true, choices := s.choices, pending := s.pending }

/-- RESET_RELEASE (R195, R22): every item takes its value after power-on and pin reset, with the straps read now. -/
def execResetRelease (straps : BitVec 4) (inputs : BitVec 8) (s : State) : Host.Outcome State Fault Refusal :=
  .next { State.released straps inputs with choices := s.choices, pending := s.pending }

/-! ## Settling and breaks -/

/-- The frame assembly takes this state. -/
def State.setRxState (s : State) (st : RxState) : State := s.setRx { s.rx with state := st }

/-- R5: LIN has been at 1 for one character-time at the rate in force. -/
def State.settled (s : State) (idleSince : Ticks) : Bool :=
  reached s.time.localCount (idleSince + BitVec.ofNat 48 s.rate.charTicks)

/-- SETTLING_END (R5): SETTLING ends when its wait has run out; a break that has not ended holds LIN at 0. -/
def execSettlingEnd (s : State) : Host.Outcome State Fault Refusal :=
  answer s <|
    match s.rx.state with
    | .settling since => if !s.rx.inBreak && s.settled since then s.setRxState .hunting else s
    | .hunting => s
    | .assembling _ => s
    | .errored _ _ => s
    | .skipping => s

/-- SETTLING_WAIT_RESTART (R5): the wait begins again at the next return of LIN to 1, `lowTicks` from now. -/
def execSettlingWaitRestart (lowTicks : Ticks) (s : State) : Host.Outcome State Fault Refusal :=
  answer s <|
    match s.rx.state with
    | .settling _ => if s.rx.inBreak then s else s.setRxState (.settling (s.time.localCount + lowTicks))
    | .hunting => s
    | .assembling _ => s
    | .errored _ _ => s
    | .skipping => s

/-- R13: a frame is discarded for a reason other than NO_BUFFER: the count rises unless it is 255, the reason is kept,
and the LINE_ERRORS condition is evaluated (R19). -/
def State.discard (s : State) (why : DiscardReason) : State :=
  (s.setRx { s.rx with badCount := min 255 (s.rx.badCount + 1), lastDiscard := why }).evalLineErrors

/-- R3: a break is recognised and lasts until LIN returns to 1. -/
def State.beginBreak (s : State) (st : RxState) : State := s.setRx { s.rx with state := st, inBreak := true }

/-- BREAK (R3, R11): a frame held is discarded and its buffer returns; the receiver holds no frame while the break lasts.
That its assembly stands in HUNTING meanwhile is the model's choice (log 29). While SETTLING, and within a break already recognised, no break event arises (R5, R3). -/
def execLineBreak (s : State) : Host.Outcome State Fault Refusal :=
  answer s <|
    if s.rx.inBreak then s
    else
      match s.rx.state with
      | .settling _ => s
      | .hunting => s.beginBreak .hunting
      | .skipping => s.beginBreak .hunting
      | .assembling _ => ((s.beginBreak .hunting).releaseBuffer.discard .brk).settle
      | .errored _ why => ((s.beginBreak .hunting).releaseBuffer.discard why).settle

/-- BREAK_END (R3, R5): the break ends and the receiver enters SETTLING. -/
def execBreakEnd (s : State) : Host.Outcome State Fault Refusal :=
  answer s <|
    if s.rx.inBreak then s.setRx { s.rx with state := .settling s.time.localCount, inBreak := false } else s

/-! ## Characters of a frame -/

/-- A frame begins now (R6): no octets, and the line time of this moment as its arrival line time. -/
def State.beginFrame (s : State) : State :=
  s.setRxState (.assembling { octets := [], arrival := s.lineTime, arrivalOffset := s.time.offset })

/-- R6, R14, R20: an FS outside a frame takes a free buffer, or the frame is lost under NO_BUFFER. -/
def State.openFrame (s : State) : State :=
  if s.rx.freeBuffers = 0 then
    (s.setRx { s.rx with state := .skipping, lastDiscard := .noBuffer }).raise .rxOverrun s.lineTime
  else (s.setRx { s.rx with freeBuffers := s.rx.freeBuffers - 1 }).beginFrame

/-- FS (R6, R10, R14). While SETTLING or in a break no character is formed (R5, R3). -/
def execFs (s : State) : Host.Outcome State Fault Refusal :=
  answer s <|
    if s.rx.inBreak then s
    else
      match s.rx.state with
      | .settling _ => s
      | .hunting => s.openFrame.settle
      | .skipping => s.openFrame.settle
      | .assembling _ => (s.discard .truncated).beginFrame.settle
      | .errored _ why => (s.discard why).beginFrame.settle

/-- DATA_CHARACTER (R8): stored, or OVERLENGTH when 249 octets are stored already. -/
def execDataCharacter (octet : Octet) (s : State) : Host.Outcome State Fault Refusal :=
  answer s <|
    match s.rx.state with
    | .assembling a =>
      if a.octets.length < Config.bufferOctets then
        s.setRxState (.assembling { a with octets := a.octets ++ [octet] })
      else s.setRxState (.errored a .overlength)
    | .settling _ => s
    | .hunting => s
    | .errored _ _ => s
    | .skipping => s

/-- ERROR_CHARACTER (R9), classed by R2 and R3: the frame's first error. A character that is not an error character
is no such event (log 18). -/
def execErrorCharacter (char : RawChar) (s : State) : Host.Outcome State Fault Refusal :=
  answer s <|
    match charClassify char, s.rx.state with
    | .error why, .assembling a => s.setRxState (.errored a why)
    | .error _, .settling _ => s
    | .error _, .hunting => s
    | .error _, .errored _ _ => s
    | .error _, .skipping => s
    | .data _, _ => s
    | .fs, _ => s
    | .fe, _ => s

/-- The frame that stored octets spell, without the CRC (section 11.1). -/
def frameOf : List Octet → Option Frame
  | d :: sr :: k :: q :: h :: m :: _len :: rest =>
    some { dest := d, src := sr, kind := k, seq := q, hops := h, mark := m, payload := rest.take (rest.length - 2) }
  | _ => none

/-- R15: the check passes. -/
def crcPasses (octets : List Octet) : Bool :=
  octetsOf 2 (crcOf (octets.take (octets.length - 2))) == octets.drop (octets.length - 2)

/-- R12: the first of the three checks that fails. -/
def frameFault (octets : List Octet) : Option DiscardReason :=
  if octets.length < 9 then some .short
  else if (octets.getD 6 0).toNat ≠ octets.length - 9 then some .lengthMismatch
  else if !crcPasses octets then some .crc
  else none

/-- R17: a good frame: the count becomes 0, the receiver is HUNTING, and the frame is handed to the Classifier. That the
count is cleared, and the end of LINE_ERRORS reported, before the frame is classified is the model's choice (log 28). -/
def State.handOver (s : State) (a : Assembly) (f : Frame) : State :=
  ((s.setRx { s.rx with state := .hunting, badCount := 0 }).evalLineErrors).classify
    { frame := f, arrival := a.arrival, arrivalOffset := a.arrivalOffset }

/-- R12: the end of a frame in ASSEMBLING. -/
def State.endFrame (s : State) (a : Assembly) : State :=
  match frameFault a.octets, frameOf a.octets with
  | none, some f => s.handOver a f
  | some why, _ => (s.setRxState .hunting).releaseBuffer.discard why
  | none, none => (s.setRxState .hunting).releaseBuffer.discard .short

/-- FE (R12, R9, R14). -/
def execFe (s : State) : Host.Outcome State Fault Refusal :=
  answer s <|
    match s.rx.state with
    | .assembling a => (s.endFrame a).settle
    | .errored _ why => ((s.setRxState .hunting).releaseBuffer.discard why).settle
    | .skipping => s.setRxState .hunting
    | .settling _ => s
    | .hunting => s

end Sys2Proof.Machine
end

