-- ==== Sys2Proof/Machine/RequestCommands.lean ====
section
/-! DEFINITION. The requests as commands of their own (chapters 5 to 10): SCHEDULE, CANCEL, POLL, READ, the WRITEs and
the CONTROL commands. Each is the request as its owning block meets it, with the tests of step 6 (log 6). -/

namespace Sys2Proof.Machine

/-- SCHEDULE (R80). -/
def execSchedule (h : ReqHeader) (arrival : Ticks) (flags : Octet) (descriptors : List Descriptor) (s : State) :
    Host.Outcome State Fault Refusal :=
  answer s (s.request h arrival (.schedule flags descriptors))

/-- CANCEL (R97). -/
def execCancel (h : ReqHeader) (selector : Octet) (tag : Half) (channel : Octet) (s : State) :
    Host.Outcome State Fault Refusal :=
  answer s (s.request h s.lineTime (.cancel selector tag channel))

/-- POLL (R149). -/
def execPoll (h : ReqHeader) (ackValid : Octet) (ackSeq : Half) (maxCount : Octet) (s : State) :
    Host.Outcome State Fault Refusal :=
  answer s (s.request h s.lineTime (.poll ackValid ackSeq maxCount))

/-- READ (R179). -/
def execRead (h : ReqHeader) (object index : Octet) (s : State) : Host.Outcome State Fault Refusal :=
  answer s (s.request h s.lineTime (.read object index))

/-- WRITE (R182). An object of the right value length that has a write behaviour of its own is written (log 20); a value
of another length is MALFORMED and does nothing (R31). -/
def execWrite (h : ReqHeader) (object index : Octet) (value : List Octet) (s : State) :
    Host.Outcome State Fault Refusal :=
  answer s <|
    match parseWrite object index value with
    | some w => s.request h s.lineTime (.write w)
    | none => s

/-- WRITE_CONFIG (R186). -/
def execWriteConfig (h : ReqHeader) (index : Octet) (value : Half) (s : State) : Host.Outcome State Fault Refusal :=
  answer s (s.request h s.lineTime (.write (.config index value)))

/-- WRITE_SLOT_EXP (R50): CONFIG index 0. -/
def execWriteSlotExp (h : ReqHeader) (value : Half) (s : State) : Host.Outcome State Fault Refusal :=
  answer s (s.request h s.lineTime (.write (.config 0 value)))

/-- WRITE_LINE_ERROR_LIMIT (R19): CONFIG index 10. -/
def execWriteLineErrorLimit (h : ReqHeader) (value : Half) (s : State) : Host.Outcome State Fault Refusal :=
  answer s (s.request h s.lineTime (.write (.config 10 value)))

/-- WRITE_ADDRESS (R184). -/
def execWriteAddress (h : ReqHeader) (index : Fin 8) (value : AddressValue) (s : State) :
    Host.Outcome State Fault Refusal :=
  answer s (s.request h s.lineTime (.write (.address index value)))

/-- WRITE_CHANNEL (R138). -/
def execWriteChannel (h : ReqHeader) (index : Fin 16) (value : ChannelValue) (s : State) :
    Host.Outcome State Fault Refusal :=
  answer s (s.request h s.lineTime (.write (.channel index value)))

/-- WRITE_TRIGGER (R154). -/
def execWriteTrigger (h : ReqHeader) (index : Fin 8) (value : TriggerValue) (s : State) :
    Host.Outcome State Fault Refusal :=
  answer s (s.request h s.lineTime (.write (.trigger index value)))

/-- WRITE_CAPTURE_CONFIG (R141). -/
def execWriteCaptureConfig (h : ReqHeader) (value : CaptureValue) (s : State) : Host.Outcome State Fault Refusal :=
  answer s (s.request h s.lineTime (.write (.captureConfig value)))

/-- WRITE_FAULT (R166). -/
def execWriteFault (h : ReqHeader) (mask : Octet) (s : State) : Host.Outcome State Fault Refusal :=
  answer s (s.request h s.lineTime (.write (.fault mask)))

/-- START (R103, R189). -/
def execStart (h : ReqHeader) (s : State) : Host.Outcome State Fault Refusal := answer s (s.control h .start)

/-- HALT (R104, R189). -/
def execHalt (h : ReqHeader) (s : State) : Host.Outcome State Fault Refusal := answer s (s.control h .halt)

/-- RESUME (R105, R189). -/
def execResume (h : ReqHeader) (s : State) : Host.Outcome State Fault Refusal := answer s (s.control h .resume)

/-- SAFE (R106, R189). -/
def execSafe (h : ReqHeader) (s : State) : Host.Outcome State Fault Refusal := answer s (s.control h .safe)

/-- CLEAR_WHEEL (R108); it has no broadcast form (R27). -/
def execClearWheel (h : ReqHeader) (s : State) : Host.Outcome State Fault Refusal := answer s (s.control h .clearWheel)

/-- CLAIM (R177); no broadcast form. -/
def execClaim (h : ReqHeader) (s : State) : Host.Outcome State Fault Refusal := answer s (s.control h .claim)

/-- RELEASE (R178); no broadcast form. -/
def execRelease (h : ReqHeader) (s : State) : Host.Outcome State Fault Refusal := answer s (s.control h .release)

/-- The CONTROL RESTART frame of this header, Mark CLEAR (section 11.1, 11.3). -/
def restartFrame (h : ReqHeader) (hops : Octet) : Frame :=
  { dest := h.dest, src := h.src, kind := kindControl, seq := h.seq, hops := hops, mark := markClear,
    payload := [Command.restart.code] }

/-- RESTART (R190, R39). The mark stands on the frame that carried the command, so the command brings its frame: a good
RESTART frame in a buffer of the pool is classified now (log 7). With no free buffer there is no such frame (R6). -/
def execRestart (h : ReqHeader) (hops : Octet) (s : State) : Host.Outcome State Fault Refusal :=
  answer s <|
    if s.rx.freeBuffers = 0 then s
    else
      ((s.setRx { s.rx with freeBuffers := s.rx.freeBuffers - 1 }).classify
        { frame := restartFrame h hops, arrival := s.lineTime, arrivalOffset := s.time.offset }).settle

end Sys2Proof.Machine
end

