-- ==== Sys2Proof/Machine/TimeEvents.lean ====
section
/-! DEFINITION. The events of time (chapters 3, 6 and 7): the meanings of TICK, SLOT_BOUNDARY, SYNC,
SYNC_TIMEOUT_EXPIRY, HOLDOVER_EXPIRY and PULSE_EXPIRY. -/

namespace Sys2Proof.Machine

/-- R142: at the first tick after release each line's filtered level is the level sampled, with no candidate. -/
def CaptureUnit.firstSample (c : CaptureUnit) : CaptureUnit :=
  if c.sampled then c
  else { c with sampled := true, lines := Vector.ofFn fun n => { filtered := c.pins.getLsbD n.val, candidate := none } }

/-- TICK (R45): the local count increases by one, wrapping at 2^48, and line time with it. What is due at the new
instant is taken by its own command (log 5). -/
def execTick (s : State) : Host.Outcome State Fault Refusal :=
  answer s ((s.setTime { s.time with localCount := s.time.localCount + 1 }).setCap s.cap.firstSample)

/-- SLOT_BOUNDARY (R48): line time has entered a slot beyond the last slot event; the next slot number is raised and
expires. Otherwise there is no boundary to take (log 4). -/
def execSlotBoundary (s : State) : Host.Outcome State Fault Refusal :=
  answer s <|
    if 1 ≤ slotDistance s.sched.curSlot s.slotNow then
      let n := s.sched.curSlot + 1
      (s.slotExpiry n (firstTickOf s.cfg.slotExp s.lineTime n)).settle
    else s

/-- SYNC (R51). A SYNC that is not accepted has no effect at all. -/
def execSync (src : Octet) (arrival : Ticks) (payload : List Octet) (s : State) : Host.Outcome State Fault Refusal :=
  answer s (if s.acceptsSync src payload then (s.takeSync src arrival payload).settle else s)

/-- SYNC_TIMEOUT_EXPIRY (R58). -/
def execSyncTimeoutExpiry (s : State) : Host.Outcome State Fault Refusal :=
  answer s (if s.timerDue s.time.syncTimer then s.syncTimeout else s)

/-- HOLDOVER_EXPIRY (R59). -/
def execHoldoverExpiry (s : State) : Host.Outcome State Fault Refusal :=
  answer s (if s.timerDue s.time.holdoverTimer then s.holdoverEnd.settle else s)

/-- PULSE_EXPIRY (R133): the local count has reached the channel's PulseEnd. A channel without one, or whose PulseEnd
has moved, has no expiry to take (R134). -/
def execPulseExpiry (channel : Fin 16) (s : State) : Host.Outcome State Fault Refusal :=
  answer s <|
    if s.timerDue s.out.chans[channel].pulseEnd then
      s.setOut { s.out with
        chans := s.out.chans.set channel { s.out.chans[channel] with level := false, pulseEnd := none } }
    else s

end Sys2Proof.Machine
end

