-- ==== Sys2Proof/Machine/Dispatch.lean ====
section
/-! DEFINITION. One arm for each command, each one call of its meaning. -/

namespace Sys2Proof.Machine

def exec (i : Instr) (s : State) : Host.Outcome State Fault Refusal :=
  match i with
  | .resetNLow => Sys2Proof.Machine.execResetNLow s
  | .resetRelease straps inputs => Sys2Proof.Machine.execResetRelease straps inputs s
  | .settlingEnd => Sys2Proof.Machine.execSettlingEnd s
  | .lineBreak => Sys2Proof.Machine.execLineBreak s
  | .fs => Sys2Proof.Machine.execFs s
  | .dataCharacter octet => Sys2Proof.Machine.execDataCharacter octet s
  | .errorCharacter char => Sys2Proof.Machine.execErrorCharacter char s
  | .fe => Sys2Proof.Machine.execFe s
  | .sync src arrival payload => Sys2Proof.Machine.execSync src arrival payload s
  | .syncTimeoutExpiry => Sys2Proof.Machine.execSyncTimeoutExpiry s
  | .holdoverExpiry => Sys2Proof.Machine.execHoldoverExpiry s
  | .slotBoundary => Sys2Proof.Machine.execSlotBoundary s
  | .pulseExpiry channel => Sys2Proof.Machine.execPulseExpiry channel s
  | .captureInputChange line level => Sys2Proof.Machine.execCaptureInputChange line level s
  | .qualifiedEdge line => Sys2Proof.Machine.execQualifiedEdge line s
  | .schedule h arrival flags descriptors => Sys2Proof.Machine.execSchedule h arrival flags descriptors s
  | .cancel h selector tag channel => Sys2Proof.Machine.execCancel h selector tag channel s
  | .poll h ackValid ackSeq maxCount => Sys2Proof.Machine.execPoll h ackValid ackSeq maxCount s
  | .read h object index => Sys2Proof.Machine.execRead h object index s
  | .write h object index value => Sys2Proof.Machine.execWrite h object index value s
  | .writeConfig h index value => Sys2Proof.Machine.execWriteConfig h index value s
  | .writeSlotExp h value => Sys2Proof.Machine.execWriteSlotExp h value s
  | .writeLineErrorLimit h value => Sys2Proof.Machine.execWriteLineErrorLimit h value s
  | .writeAddress h index value => Sys2Proof.Machine.execWriteAddress h index value s
  | .writeChannel h index value => Sys2Proof.Machine.execWriteChannel h index value s
  | .writeTrigger h index value => Sys2Proof.Machine.execWriteTrigger h index value s
  | .writeCaptureConfig h value => Sys2Proof.Machine.execWriteCaptureConfig h value s
  | .writeFault h mask => Sys2Proof.Machine.execWriteFault h mask s
  | .start h => Sys2Proof.Machine.execStart h s
  | .halt h => Sys2Proof.Machine.execHalt h s
  | .resume h => Sys2Proof.Machine.execResume h s
  | .safe h => Sys2Proof.Machine.execSafe h s
  | .clearWheel h => Sys2Proof.Machine.execClearWheel h s
  | .restart h hops => Sys2Proof.Machine.execRestart h hops s
  | .restartEffect => Sys2Proof.Machine.execRestartEffect s
  | .claim h => Sys2Proof.Machine.execClaim h s
  | .release h => Sys2Proof.Machine.execRelease h s
  | .noticeDescriptorPlace => Sys2Proof.Machine.execNoticeDescriptorPlace s
  | .feSent => Sys2Proof.Machine.execFeSent s
  | .gapEnd => Sys2Proof.Machine.execGapEnd s
  | .breakEnd => Sys2Proof.Machine.execBreakEnd s
  | .settlingWaitRestart lowTicks => Sys2Proof.Machine.execSettlingWaitRestart lowTicks s
  | .tick => Sys2Proof.Machine.execTick s

end Sys2Proof.Machine
end

