-- ==== Sys2Proof/Safety.lean ====
section
/-! DEFINITION. What a safe state of the part is: the properties the spec states of every moment, as predicates on one
state. Statements about steps are in Certificates/Slice0/Obligations.lean. -/

namespace Sys2Proof.Machine

/-- R68: every one of the 512 records is on the free list or linked, and not both. -/
def State.PoolWhole (s : State) : Prop :=
  (s.sched.free ++ s.sched.wheel.map (·.id)).Perm (List.range 512)

/-- R70: no slot list holds more than 32 records. -/
def State.ListsFit (s : State) : Prop := ∀ i, (s.slotList i).length ≤ 32

/-- R78: while the scheduler is HALTED the wheel is empty. -/
def State.HaltedEmpty (s : State) : Prop := s.sched.state = .halted → s.sched.wheel = []

/-- Whether the frame assembly holds a buffer (section 1.3), as a number of buffers. -/
def RxState.held : RxState → Nat
  | .assembling _ => 1
  | .errored _ _ => 1
  | .settling _ => 0
  | .hunting => 0
  | .skipping => 0

/-- R65: a linked record has a firing to come. One without a Period has exactly one; a Period is 1 to 255 slots, a
finite Remaining at most 65535, and Fired at most 65535. -/
def ActionRecord.Sound (r : ActionRecord) : Prop :=
  r.remaining ≠ .times 0 ∧ (r.period = none → r.remaining = .times 1) ∧ r.period ≠ some 0 ∧
  (∀ n, r.remaining = .times n → n ≤ 65535) ∧ r.fired ≤ 65535

/-- R65: every linked record is sound. -/
def State.RecordsSound (s : State) : Prop := ∀ r ∈ s.sched.wheel, r.Sound

/-- R16: the 16 buffers are free, held by the frame assembly, or in the Forward Queue; while a break lasts the frame
assembly holds none (R11). -/
def State.BuffersWhole (s : State) : Prop :=
  s.rx.freeBuffers + s.rx.state.held + s.port.forward.length = 16 ∧ (s.rx.inBreak = true → s.rx.state.held = 0)

/-- R36: a forwarded frame being sent stands at the head of the Forward Queue. -/
def State.SendsHead (s : State) : Prop :=
  match s.port.tx with
  | .sendingForward _ _ => s.port.forward ≠ []
  | .sendingReply _ _ _ => True
  | .idle => True
  | .gap _ => True

/-- R8, R12: a buffer holds at most 249 octets, so a forwarded frame has at most 240 octets of payload. -/
def State.FramesFit (s : State) : Prop :=
  (match s.rx.state with
   | .assembling a => a.octets.length ≤ 249
   | .errored a _ => a.octets.length ≤ 249
   | .settling _ => True
   | .hunting => True
   | .skipping => True) ∧
  ∀ f ∈ s.port.forward, f.frame.payload.length ≤ 240

/-- R41: the reply credit is 0 to 8. -/
def State.CreditFits (s : State) : Prop := s.port.credit ≤ 8

/-- R37, R38, R173: at most 8 descriptors, and a NOTICE descriptor among them exactly while one is outstanding. -/
def State.RepliesFit (s : State) : Prop :=
  s.port.replies.length ≤ 8 ∧
  (s.port.replies.filter fun d => d.body = .notice).length = (if s.notices.outstanding then 1 else 0)

/-- R168, R173: at most 32 notices, and one at least while a NOTICE descriptor is outstanding. -/
def State.NoticesFit (s : State) : Prop :=
  s.notices.queue.length ≤ 32 ∧ (s.notices.outstanding = true → s.notices.queue ≠ [])

/-- R146: at most 64 records, with consecutive Seq values that end just before the next sequence number. -/
def State.RingConsecutive (s : State) : Prop :=
  s.cap.ring.length ≤ 64 ∧
  ∀ i (h : i < s.cap.ring.length),
    s.cap.ring[i].seq = s.cap.nextSeq - BitVec.ofNat 16 (s.cap.ring.length - i)

/-- R127: a channel with a PulseEnd has Level ACTIVE. -/
def State.PulsesActive (s : State) : Prop :=
  ∀ n : Fin 16, s.out.chans[n].pulseEnd ≠ none → s.out.chans[n].level = true

/-- R112, R136: no pulse is in progress while the scheduler is FROZEN. -/
def State.FrozenStill (s : State) : Prop :=
  s.sched.state = .frozen → ∀ n : Fin 16, s.out.chans[n].pulseEnd = none

/-- R22: an entry holds a node address in 0x01 to 0xFE, no two entries hold the same Address, and some entry that holds
an Address has MGMT. -/
def State.TableReachable (s : State) : Prop :=
  (∀ i : Fin 8, ∀ e, s.addr[i] = some e → e.address ≠ 0x00 ∧ e.address ≠ 0xFF) ∧
  (∀ i j : Fin 8, ∀ e f, s.addr[i] = some e → s.addr[j] = some f → e.address = f.address → i = j) ∧
  ∃ i : Fin 8, ∃ e, s.addr[i] = some e ∧ e.mgmt = true

/-- R186: every CONFIG field lies in its range, and Lead never exceeds Window. -/
def ConfigFields.InRange (c : ConfigFields) : Prop :=
  (8 ≤ c.slotExp ∧ c.slotExp ≤ 16) ∧ (1 ≤ c.lead ∧ c.lead ≤ 16) ∧ (c.lead ≤ c.window ∧ c.window ≤ 255) ∧
  c.catchUpLimit ≤ 64 ∧ (1 ≤ c.stepLimit ∧ c.stepLimit ≤ 65535) ∧ (1 ≤ c.syncTimeout ∧ c.syncTimeout ≤ 255) ∧
  (1 ≤ c.holdoverLimit ∧ c.holdoverLimit ≤ 65535) ∧ c.linkDelay ≤ 65535 ∧ (1 ≤ c.arbiterRatio ∧ c.arbiterRatio ≤ 8) ∧
  (1 ≤ c.lineErrorLimit ∧ c.lineErrorLimit ≤ 255) ∧ (1 ≤ c.replyHops ∧ c.replyHops ≤ 255) ∧
  c.reportAddress ≠ 0xFF ∧ c.timeSource ≠ 0xFF

/-- R19, R163: the LINE_ERRORS condition is active exactly while the count is at or above the limit, and the count
stays within 0 to 255. -/
def State.LineErrorsFollow (s : State) : Prop :=
  s.rx.badCount ≤ 255 ∧ (s.isActive .lineErrors = true ↔ s.cfg.lineErrorLimit ≤ s.rx.badCount)

/-- Sections 3.1 and 3.4: the SyncTimeout timer runs in ACQUIRING and LOCKED, the holdover timer in HOLDOVER, the
reference is valid but in UNSYNCED, the outlier count is 0 to 2, and 0 outside LOCKED, and the SYNC_LOST condition is
active in UNSYNCED only (R61). -/
def State.SyncConsistent (s : State) : Prop :=
  (s.isActive .syncLost = true → s.time.sync = .unsynced) ∧
  match s.time.sync with
  | .unsynced => s.time.syncTimer = none ∧ s.time.holdoverTimer = none ∧ s.time.reference = none ∧ s.time.outliers = 0
  | .acquiring => s.time.syncTimer ≠ none ∧ s.time.holdoverTimer = none ∧ s.time.reference ≠ none ∧ s.time.outliers = 0
  | .locked => s.time.syncTimer ≠ none ∧ s.time.holdoverTimer = none ∧ s.time.reference ≠ none ∧ s.time.outliers ≤ 2
  | .holdover => s.time.syncTimer = none ∧ s.time.holdoverTimer ≠ none ∧ s.time.reference ≠ none ∧ s.time.outliers = 0

/-- How many items carry the restart mark. -/
def State.marks (s : State) : Nat :=
  (s.port.forward.filter (·.restartMark)).length + (s.port.replies.filter (·.restartMark)).length +
  (match s.port.tx with
   | .sendingReply _ _ true => 1
   | .sendingReply _ _ false => 0
   | .idle => 0
   | .sendingForward _ _ => 0
   | .gap _ => 0)

/-- R39: the Output Port holds at most one restart mark. -/
def State.OneMark (s : State) : Prop := s.marks ≤ 1

/-! ## Terms of the statements -/

/-- A request of this kind with this header is taken at entry `e` (R29 to R33), its payload being well formed: the part
is up, the Dest is that entry's Address, the entry's flag permits the kind, the Src is authorised where ownership
matters, and the Reply Queue has a place. -/
abbrev State.Takes (s : State) (h : ReqHeader) (kind : Octet) (e : Station) : Prop :=
  s.resetHeld = false ∧ h.dest ≠ 0xFF ∧ s.station h.dest = some e ∧ kindPermitted e kind = true ∧
  (kindOwned kind = true → s.authorised h.src = true) ∧ s.port.replies.length < 8

/-- The state with one reply descriptor more at the tail of the Reply Queue, for the request of this header (R33, R37). -/
def State.answered (s : State) (h : ReqHeader) (kind : ReplyKind) (body : ReplyBody) : State :=
  { s with port := { s.port with replies := s.port.replies ++
      [{ kind := kind, dest := h.src, src := h.dest, seq := h.seq, body := body, restartMark := false,
         restartReply := false }] } }

/-- The same, for a body of one result code. -/
def State.resulted (s : State) (h : ReqHeader) (r : MgmtResult) : State := s.answered h .reply (.fixed [r.code])

/-- R179, section 11.5: the nine objects and their indices. -/
abbrev ObjectNamed (object index : Octet) : Prop :=
  (object = 0x01 ∧ index = 0) ∨ (object = 0x02 ∧ index = 0) ∨ (object = 0x03 ∧ index.toNat < 24) ∨
  (object = 0x04 ∧ index.toNat < 8) ∨ (object = 0x05 ∧ index.toNat < 16) ∨ (object = 0x06 ∧ index.toNat < 8) ∨
  (object = 0x07 ∧ index = 0) ∨ (object = 0x08 ∧ index.toNat < 16) ∨ (object = 0x09 ∧ index = 0)

/-- Section 11.5: the CONFIG indices and the range of each field beside the fields as they stand (R186, R202). -/
abbrev ConfigRange (c : ConfigFields) (index v : Nat) : Prop :=
  (index = 0 ∧ 8 ≤ v ∧ v ≤ 16) ∨ (index = 1 ∧ 1 ≤ v ∧ v ≤ 16 ∧ v ≤ c.window) ∨
  (index = 2 ∧ c.lead ≤ v ∧ v ≤ 255) ∨ (index = 3 ∧ v ≤ 64) ∨ (index = 4 ∧ 1 ≤ v ∧ v ≤ 65535) ∨
  (index = 5 ∧ 1 ≤ v ∧ v ≤ 255) ∨ (index = 6 ∧ 1 ≤ v ∧ v ≤ 65535) ∨ (index = 7 ∧ v ≤ 65535) ∨
  (index = 8 ∧ (v = 1 ∨ v = 2 ∨ v = 4 ∨ v = 8)) ∨ (index = 9 ∧ 1 ≤ v ∧ v ≤ 8) ∨ (index = 10 ∧ 1 ≤ v ∧ v ≤ 255) ∨
  (index = 11 ∧ 1 ≤ v ∧ v ≤ 255) ∨ (index = 12 ∧ v ≤ 254) ∨ (index = 13 ∧ v ≤ 254) ∨
  (14 ≤ index ∧ index ≤ 23 ∧ v ≤ 1)

/-- R148: a Seq lies in the reported span, from the oldest record to the one whose Seq is HighestReported. -/
abbrev CaptureUnit.InReportedSpan (c : CaptureUnit) (seq : Half) : Prop :=
  ∃ g ∈ c.highest, ∃ oldest ∈ c.ring.head?,
    (g - oldest.seq).toNat < c.ring.length ∧ (seq - oldest.seq).toNat ≤ (g - oldest.seq).toNat

/-- R82 to R84 in plain arithmetic: the Due that a descriptor names. -/
def State.namedDue (s : State) (arrivalSlot : SlotNo) (d : Descriptor) : SlotNo :=
  let slot : Int → SlotNo := fun t => BitVec.ofInt 32 (t % 2 ^ 48 / 2 ^ s.cfg.slotExp)
  let now : Int := s.lineTime.toNat
  match d.modeFlags.toNat % 4 with
  | 0 => slot (now + Int.bmod ((d.target.toNat : Int) - now) (2 ^ 32))
  | 1 => slot (((s.time.reference.getD 0).toNat : Int) + d.target.toNat)
  | _ => arrivalSlot + d.target

/-- The twelve checks of R86 in their order. -/
def checkOrder : List DescResult :=
  [.noChannel, .notPermitted, .channelDisabled, .actionRefused, .widthRange, .badRepeat, .noTime, .noReference,
   .tooEarly, .tooLate, .poolEmpty, .slotFull]

/-- When each check of R86 fails, for a descriptor of a frame addressed to entry `e`. -/
def State.Fails (s : State) (e : Station) (arrivalSlot : SlotNo) (d : Descriptor) : DescResult → Prop
  | .noChannel => 16 ≤ d.channel.toNat
  | .notPermitted => e.mask.getLsbD d.channel.toNat = false
  | .channelDisabled => s.out.table[Fin.ofNat 16 d.channel.toNat].enabled = false
  | .actionRefused =>
    d.action = 0 ∨ 5 ≤ d.action.toNat ∨
      s.out.table[Fin.ofNat 16 d.channel.toNat].actionMask.getLsbD (d.action.toNat - 1) = false
  | .widthRange =>
    d.action = 4 ∧ (d.width = 0 ∨ s.out.table[Fin.ofNat 16 d.channel.toNat].maxPulse.toNat < d.width.toNat)
  | .badRepeat => d.count ≠ 1 ∧ d.period = 0
  | .noTime => d.modeFlags.toNat % 4 = 0 ∧ (s.time.sync = .unsynced ∨ s.time.sync = .acquiring)
  | .noReference => d.modeFlags.toNat % 4 = 1 ∧ s.time.reference = none
  | .tooEarly =>
    (s.namedDue arrivalSlot d - s.sched.curSlot).toInt < (s.cfg.lead : Int) ∨
      (d.modeFlags.toNat % 4 = 2 ∧ d.target = 0)
  | .tooLate =>
    (s.cfg.window : Int) < (s.namedDue arrivalSlot d - s.sched.curSlot).toInt ∨
      (d.modeFlags.toNat % 4 = 2 ∧ 255 < d.target.toNat)
  | .poolEmpty => s.sched.free = []
  | .slotFull =>
    32 ≤ (s.sched.wheel.filter fun r => r.due.toNat % 256 = (s.namedDue arrivalSlot d).toNat % 256).length
  | .accepted | .halted | .withdrawn | .notAttempted => False

/-- R97: the records that a CANCEL to entry `e` removes. -/
abbrev Cancels (e : Station) (selector : Octet) (tag : Half) (channel : Octet) (r : ActionRecord) : Prop :=
  e.mask.getLsbD r.channel.val = true ∧
    ((selector = 1 ∧ r.tag = tag) ∨ (selector = 2 ∧ r.channel.val = channel.toNat) ∨ selector = 3)

/-- R103, R105: a fault kind whose Response is FREEZE has its flag latched. -/
abbrev State.FreezeLatched (s : State) : Prop :=
  ∃ k : Fin 8, s.faults.latched.getLsbD k.val = true ∧ s.cfg.responses[k] = .freeze

/-- The header of a request row and the kind of its frame; none for a row that is no request. -/
def requestOf : Sys2Proof.Instr → Option (ReqHeader × Octet)
  | .schedule h _ _ _ => some (h, kindSchedule)
  | .cancel h _ _ _ => some (h, kindCancel)
  | .poll h _ _ _ => some (h, kindPoll)
  | .read h _ _ => some (h, kindRead)
  | .write h _ _ _ | .writeConfig h _ _ | .writeSlotExp h _ | .writeLineErrorLimit h _ | .writeAddress h _ _
  | .writeChannel h _ _ | .writeTrigger h _ _ | .writeCaptureConfig h _ | .writeFault h _ => some (h, kindWrite)
  | .start h | .halt h | .resume h | .safe h | .clearWheel h | .claim h | .release h => some (h, kindControl)
  | .restart _ _ | .resetNLow | .resetRelease _ _ | .settlingEnd | .lineBreak | .fs | .dataCharacter _
  | .errorCharacter _ | .fe | .sync _ _ _ | .syncTimeoutExpiry | .holdoverExpiry | .slotBoundary | .pulseExpiry _
  | .captureInputChange _ _ | .qualifiedEdge _ | .restartEffect | .noticeDescriptorPlace | .feSent | .gapEnd
  | .breakEnd | .settlingWaitRestart _ | .tick => none

/-- The row that performs the request of a unicast frame; none when the payload spells no request, and for RESTART,
whose row brings its own frame (log 7). -/
def Frame.row (f : Frame) (arrival : Ticks) : Option Sys2Proof.Instr :=
  let h : ReqHeader := { dest := f.dest, src := f.src, seq := f.seq }
  match parseRequest f.kind f.payload with
  | some (.schedule flags ds) => some (.schedule h arrival flags ds)
  | some (.cancel sel tag ch) => some (.cancel h sel tag ch)
  | some (.poll av seq mc) => some (.poll h av seq mc)
  | some (.read o i) => some (.read h o i)
  | some (.write (.plain o i)) => some (.write h o i (f.payload.drop 2))
  | some (.write (.config i v)) =>
    some (if i = 0 then .writeSlotExp h v else if i = 10 then .writeLineErrorLimit h v else .writeConfig h i v)
  | some (.write (.address n v)) => some (.writeAddress h n v)
  | some (.write (.channel n v)) => some (.writeChannel h n v)
  | some (.write (.trigger n v)) => some (.writeTrigger h n v)
  | some (.write (.captureConfig v)) => some (.writeCaptureConfig h v)
  | some (.write (.fault m)) => some (.writeFault h m)
  | some (.control .start) => some (.start h)
  | some (.control .halt) => some (.halt h)
  | some (.control .resume) => some (.resume h)
  | some (.control .safe) => some (.safe h)
  | some (.control .clearWheel) => some (.clearWheel h)
  | some (.control .claim) => some (.claim h)
  | some (.control .release) => some (.release h)
  | some (.control .restart) => none
  | none => none

/-- The local count stands at an instant or at most 2^47 - 1 ticks beyond it. -/
abbrev State.At (s : State) (instant : Ticks) : Prop := (s.time.localCount - instant).toNat < 2 ^ 47

end Sys2Proof.Machine
end

