-- ==== Sys2Proof/Certificates/Slice0/Obligations.lean ====
section
/-! DEFINITION. The statements for the provers. Each docstring says what its statement claims and where the spec says it. -/

open Sys2Proof Sys2Proof.Machine

/-- A step of a state whose queue holds command c at its front is exec of c on the state with the queue's rest; on an
empty queue the block idles and the step answers the state itself. Both halves are the model's own (log 2). (section
Events of 00_scope.md) -/
def Obligations.StepTakesFrontCommand : Prop :=
  (∀ (s : State) (c : Instr) (rest : List Instr), s.pending = c :: rest → step s = exec c { s with pending := rest }) ∧
  ∀ s : State, s.pending = [] → step s = .next s

/-- For every one of the 43 commands, with any operands, on any state, exec answers a next state; that state has the
same queue of waiting commands. No command stops the part. (section Events of 00_scope.md, section Scope of this
manual of 00_scope.md) -/
def Obligations.EveryCommandAnswersNext : Prop :=
  ∀ (c : Instr) (s : State), ∃ t, exec c s = .next t ∧ t.pending = s.pending

/-- RESET_RELEASE answers, from any state, the state written out here in full: every register, queue, table and flag at
the value of section 10.7, the Address Table from the straps. The local-count instants of the receiver and of the
gap, the filtered levels before the first tick, the order of the free list (R78 says only that all are free), and
the model's own queue and counter are the model's choices (logs 1, 14, 16, 17). (section 10.7, section 3.1, section
7.1, section 8.6, section 10.4) -/
def Obligations.ResetReleaseValues : Prop :=
  ∀ (straps : BitVec 4) (inputs : BitVec 8) (s : State), exec (.resetRelease straps inputs) s = .next
    { resetHeld := false
      rate := .mbit2
      rx := { state := .settling 0, badCount := 0, lastDiscard := .none, inBreak := false, freeBuffers := 16 }
      port := { forward := [], replies := [], credit := 0, noticeSeq := 0, tx := .gap 48 }
      time :=
        { localCount := 0, offset := 0, sync := .unsynced, outliers := 0, reference := none, syncTimer := none,
          holdoverTimer := none }
      sched := { state := .halted, curSlot := 0, free := List.range 512, wheel := [] }
      out :=
        { table := Vector.replicate 16
            { enabled := false, invert := false, safeLevel := .inactive, actionMask := 0b1111, maxPulse := 40000 }
          chans := Vector.replicate 16 { level := false, pulseEnd := none, lastTag := none } }
      cap :=
        { enable := 0, edges := Vector.replicate 8 .rising, filterTime := 2, pins := inputs, sampled := false,
          lines := Vector.ofFn fun n => { filtered := inputs.getLsbD n.val, candidate := none },
          ring := [], nextSeq := 0, gapPending := false, highest := none,
          triggers := Vector.replicate 8
            { enabled := false, line := 0, edge := .rising, channel := 0, action := .set, width := 4000, delay := 1,
              oneShot := false, report := false } }
      faults := { latched := 0, active := 0 }
      notices := { queue := [], outstanding := false }
      addr :=
        #v[some { address := 0x10 + straps.setWidth 8, mask := 0xFFFF, sched := true, capt := true, mgmt := true },
           none, none, none, none, none, none, none]
      owner := 0xFF
      cfg :=
        { slotExp := 12, lead := 2, window := 200, catchUpLimit := 4, stepLimit := 400, syncTimeout := 50,
          holdoverLimit := 2000, linkDelay := 0, lineRate := .mbit2, arbiterRatio := 4, lineErrorLimit := 8,
          replyHops := 32, reportAddress := 0, timeSource := 0, reportAbnormal := true, faultNotices := true,
          responses := #v[.note, .note, .note, .freeze, .note, .note, .note, .note] }
      choices := s.choices
      pending := s.pending }

/-- RESET_N_LOW answers, from any state, a held state with local count 0, every Q pin low, STAT low and no character on
LOUT; and on any held state every command other than RESET_N_LOW and RESET_RELEASE answers the state unchanged.
(section 10.7, section 7.2) -/
def Obligations.ResetHoldsThePart : Prop :=
  (∀ s : State, ∃ t, exec .resetNLow s = .next t ∧ t.resetHeld = true ∧ t.time.localCount = 0 ∧
      (∀ n, t.pinQ n = false) ∧ t.stat = false ∧ t.loutFrame = [] ∧ t.pending = s.pending) ∧
  ∀ (c : Instr) (s : State), s.resetHeld = true → c ≠ .resetNLow → (∀ straps inputs, c ≠ .resetRelease straps inputs) →
    exec c s = .next s

/-- For all strap and input levels, the state after power-on and pin reset meets every invariant that the statements of
this list carry over a step. State.reset is the case of straps 0 and inputs 0 (log 1). (section 10.7) -/
def Obligations.ResetMeetsInvariants : Prop :=
  ∀ (straps : BitVec 4) (inputs : BitVec 8), let s := State.released straps inputs
    s.PoolWhole ∧ s.ListsFit ∧ s.HaltedEmpty ∧ s.RecordsSound ∧ s.BuffersWhole ∧ s.SendsHead ∧ s.FramesFit ∧
    s.RepliesFit ∧ s.NoticesFit ∧ s.RingConsecutive ∧ s.PulsesActive ∧ s.FrozenStill ∧ s.TableReachable ∧
    s.cfg.InRange ∧ s.CreditFits ∧ s.LineErrorsFollow ∧ s.SyncConsistent ∧ s.OneMark

/-- If the 512 records are exactly those on the free list and those linked, each once, and a step answers t, then so it
is in t. (section 4.2) -/
def Obligations.StepKeepsPoolWhole : Prop :=
  ∀ s t : State, s.PoolWhole → step s = .next t → t.PoolWhole

/-- If no slot list holds more than 32 records, the wheel is empty while HALTED, and every linked record has a firing to
come, exactly one if it has no Period, a Period of 1-255 otherwise, at most 65535 finite firings and a Fired of at
most 65535, then the same holds after a step. (section 4.1, section 4.3, section 4.6) -/
def Obligations.StepKeepsWheelSound : Prop :=
  ∀ s t : State, s.ListsFit → s.HaltedEmpty → s.RecordsSound → step s = .next t → t.ListsFit ∧ t.HaltedEmpty ∧ t.RecordsSound

/-- If the free buffers, the one held by the frame assembly and those of the Forward Queue make 16, none is held by the
frame assembly in a break, a forwarded frame being sent heads the Forward Queue, and no frame is longer than a
buffer stores, then the same holds after a step. (section 1.5, section 1.3, section 2.3) -/
def Obligations.StepKeepsBuffersWhole : Prop :=
  ∀ s t : State, s.BuffersWhole → s.SendsHead → s.FramesFit → step s = .next t → t.BuffersWhole ∧ t.SendsHead ∧ t.FramesFit

/-- If the Reply Queue holds at most 8 descriptors, one of them a NOTICE exactly while a descriptor is outstanding, the
Notice Queue holds at most 32 notices, and it is not empty while a descriptor is outstanding, then the same holds
after a step. (section 2.4, section 9.5, section 9.6) -/
def Obligations.StepKeepsQueuesFit : Prop :=
  ∀ s t : State, s.RepliesFit → s.NoticesFit → step s = .next t → t.RepliesFit ∧ t.NoticesFit

/-- If the ring holds at most 64 records whose Seq values are consecutive modulo 65536 and end just before the next
sequence number, then the same holds after a step. (section 8.3) -/
def Obligations.StepKeepsRingConsecutive : Prop :=
  ∀ s t : State, s.RingConsecutive → step s = .next t → t.RingConsecutive

/-- If every channel with a PulseEnd has Level ACTIVE and no pulse is in progress while the scheduler is FROZEN, then
the same holds after a step. (section 7.2, section 7.6, section 6.2) -/
def Obligations.StepKeepsChannelsSound : Prop :=
  ∀ s t : State, s.PulsesActive → s.FrozenStill → step s = .next t → t.PulsesActive ∧ t.FrozenStill

/-- If every held Address lies in 0x01-0xFE, no two entries hold the same Address and some entry that holds one has
MGMT, then the same holds after a step. (section 2.1, section 10.3) -/
def Obligations.StepKeepsTableReachable : Prop :=
  ∀ s t : State, s.TableReachable → step s = .next t → t.TableReachable

/-- If every CONFIG field lies in its range with Lead at most Window, the reply credit is at most 8, the consecutive bad
frame count is at most 255, and the LINE_ERRORS condition is active exactly while the count is at or above
LineErrorLimit, then the same holds after a step. (section 10.4, section 2.5, section 1.6) -/
def Obligations.StepKeepsConfigInRange : Prop :=
  ∀ s t : State, s.cfg.InRange → s.CreditFits → s.LineErrorsFollow → step s = .next t →
    t.cfg.InRange ∧ t.CreditFits ∧ t.LineErrorsFollow

/-- If the SyncTimeout timer runs exactly in ACQUIRING and LOCKED, the holdover timer exactly in HOLDOVER, the reference
is valid exactly outside UNSYNCED, the outlier count is 0-2 in LOCKED and 0 elsewhere, and the SYNC_LOST condition
is active in UNSYNCED only, then the same holds after a step. (section 3.4, section 3.5, section 3.6) -/
def Obligations.StepKeepsSyncConsistent : Prop :=
  ∀ s t : State, s.SyncConsistent → step s = .next t → t.SyncConsistent

/-- If at most one item of the Output Port carries the restart mark, then the same holds after a step. (section 2.4,
section 10.6) -/
def Obligations.StepKeepsOneMark : Prop :=
  ∀ s t : State, s.OneMark → step s = .next t → t.OneMark

/-- If a command other than TICK and the resets answers t, the local count of t is that of s; other than SYNC, FE and
the resets, the offset is; other than CLAIM, RELEASE, FE and the resets, the owner is. (section 3.1, section 10.1) -/
def Obligations.ProtectedRegisters : Prop :=
  ∀ (c : Instr) (s t : State), exec c s = .next t → c ≠ .resetNLow → (∀ straps inputs, c ≠ .resetRelease straps inputs) →
    (c ≠ .tick → t.time.localCount = s.time.localCount) ∧
    (c ≠ .fe → (∀ src arrival payload, c ≠ .sync src arrival payload) → t.time.offset = s.time.offset) ∧
    (c ≠ .fe → (∀ h, c ≠ .claim h) → (∀ h, c ≠ .release h) → t.owner = s.owner)

/-- On a FROZEN state with no pulse in progress, every command other than SAFE, a WRITE that may name a CHANNEL object,
those that can bring a RESTART into effect, FE (which may carry any of these) and the resets leaves every channel's
Level, PulseEnd and LastTag as they were. (section 6.2, section 7.6) -/
def Obligations.FrozenHoldsLevels : Prop :=
  ∀ (c : Instr) (s t : State), s.FrozenStill → s.sched.state = .frozen → exec c s = .next t →
    c ≠ .resetNLow → (∀ straps inputs, c ≠ .resetRelease straps inputs) → c ≠ .fe → c ≠ .feSent → c ≠ .restartEffect →
    (∀ h, c ≠ .safe h) → (∀ h hops, c ≠ .restart h hops) → (∀ h n v, c ≠ .writeChannel h n v) →
    (∀ h o i v, c ≠ .write h o i v) → t.out.chans = s.out.chans

/-- A request row addressed to no entry, or to an entry whose flags do not permit its kind, or a WRITE or CONTROL from a
Src that is not the owner of a claimed node, or met with 8 descriptors in the Reply Queue, answers the state
unchanged. So does a malformed one: a SCHEDULE of no descriptor, of more than 14, or with a Mode of 3; a CANCEL of
an unknown Selector, or BY_CHANNEL of a Channel above 15; a POLL with a MaxCount of 0 or above 16; a WRITE of an
object that exists with a value of another length. That the row makes these tests is the model's choice (log 6).
(section 2.2, section 2.4) -/
def Obligations.RequestNotTakenDoesNothing : Prop :=
  (∀ (c : Instr) (s : State) (h : ReqHeader) (kind : Octet), requestOf c = some (h, kind) → h.dest ≠ 0xFF →
    (s.station h.dest = none ∨ 8 ≤ s.port.replies.length ∨
      ∃ e, s.station h.dest = some e ∧
        (kindPermitted e kind = false ∨ (kindOwned kind = true ∧ s.owner ≠ 0xFF ∧ s.owner ≠ h.src))) →
    exec c s = .next s) ∧
  ∀ (s : State) (h : ReqHeader),
    (∀ arrival flags ds, ds = [] ∨ 14 < ds.length ∨ (∃ d ∈ ds, d.modeFlags.toNat % 4 = 3) →
      exec (.schedule h arrival flags ds) s = .next s) ∧
    (∀ selector tag channel, ¬ (selector = 1 ∨ (selector = 2 ∧ channel.toNat ≤ 15) ∨ selector = 3) →
      exec (.cancel h selector tag channel) s = .next s) ∧
    (∀ ackValid ackSeq maxCount, maxCount = 0 ∨ 16 < maxCount.toNat →
      exec (.poll h ackValid ackSeq maxCount) s = .next s) ∧
    ∀ object index value, ObjectNamed object index →
      value.length ≠ [5, 22, 2, 4, 6, 9, 1, 8, 10].getD (object.toNat - 1) 0 →
      exec (.write h object index value) s = .next s

/-- SETTLING_END takes a SETTLING receiver, in no break, whose LIN has been at 1 for one character-time, to HUNTING, and
before that does nothing. SETTLING_WAIT_RESTART begins the wait again at the next return of LIN to 1. BREAK_END
takes the receiver from a break to SETTLING. Only the receiver's state changes. Outside SETTLING, or in a break, the
first two do nothing, and without a break BREAK_END does nothing (log 4). (section 1.2, section 1.1) -/
def Obligations.ReceiverSettles : Prop :=
  ∀ s : State, s.resetHeld = false →
    (∀ since, s.rx.state = .settling since → s.rx.inBreak = false →
      (s.At (since + BitVec.ofNat 48 s.rate.charTicks) →
        exec .settlingEnd s = .next { s with rx := { s.rx with state := .hunting } }) ∧
      (¬ s.At (since + BitVec.ofNat 48 s.rate.charTicks) → exec .settlingEnd s = .next s) ∧
      (∀ low, exec (.settlingWaitRestart low) s =
        .next { s with rx := { s.rx with state := .settling (s.time.localCount + low) } })) ∧
    (s.rx.inBreak = true ∨ (∀ since, s.rx.state ≠ .settling since) →
      exec .settlingEnd s = .next s ∧ ∀ low, exec (.settlingWaitRestart low) s = .next s) ∧
    (s.rx.inBreak = true →
      exec .breakEnd s = .next { s with rx := { s.rx with state := .settling s.time.localCount, inBreak := false } }) ∧
    (s.rx.inBreak = false → exec .breakEnd s = .next s)

/-- In HUNTING and SKIPPING an FS takes a free buffer and begins an empty frame stamped with the line time; with none
free the frame is lost: SKIPPING, reason NO_BUFFER, RX_OVERRUN raised. In ASSEMBLING and ERRORED the frame held is
discarded (TRUNCATED, or its own reason: the count rises unless 255, LINE_ERRORS is evaluated) and a new one begins
in the same buffer. In SETTLING and in a break an FS does nothing. (section 1.3, section 1.5, section 1.6) -/
def Obligations.FsBeginsFrame : Prop :=
  ∀ s : State, s.resetHeld = false →
    let fresh : RxState := .assembling { octets := [], arrival := s.lineTime, arrivalOffset := s.time.offset }
    let ended : DiscardReason → State := fun why =>
      { s with rx := { s.rx with badCount := min 255 (s.rx.badCount + 1), lastDiscard := why } }.evalLineErrors
    (s.rx.inBreak = false →
      (s.rx.state = .hunting ∨ s.rx.state = .skipping →
        (0 < s.rx.freeBuffers → exec .fs s = .next
          { s with rx := { s.rx with state := fresh, freeBuffers := s.rx.freeBuffers - 1 } }.settle) ∧
        (s.rx.freeBuffers = 0 → exec .fs s = .next
          ({ s with rx := { s.rx with state := .skipping, lastDiscard := .noBuffer } }.raise .rxOverrun
            s.lineTime).settle)) ∧
      (∀ a, s.rx.state = .assembling a → exec .fs s = .next
        { ended .truncated with rx := { (ended .truncated).rx with state := fresh } }.settle) ∧
      (∀ a why, s.rx.state = .errored a why → exec .fs s = .next
        { ended why with rx := { (ended why).rx with state := fresh } }.settle)) ∧
    (s.rx.inBreak = true ∨ (∃ since, s.rx.state = .settling since) → exec .fs s = .next s)

/-- In ASSEMBLING a data character's octet is stored while fewer than 249 are stored, and otherwise is the error
OVERLENGTH; a character with stop bit 0 is FRAMING, one with an odd count of ones PARITY, and a good control
character other than FS and FE STRAY_CONTROL. In every other state, and for characters that are no error characters
(log 18), the rows do nothing. (section 1.1, section 1.3) -/
def Obligations.CharactersOfAFrame : Prop :=
  ∀ s : State, s.resetHeld = false →
    (∀ a, s.rx.state = .assembling a →
      (∀ o, a.octets.length < 249 → exec (.dataCharacter o) s =
        .next { s with rx := { s.rx with state := .assembling { a with octets := a.octets ++ [o] } } }) ∧
      (∀ o, 249 ≤ a.octets.length → exec (.dataCharacter o) s =
        .next { s with rx := { s.rx with state := .errored a .overlength } }) ∧
      ∀ c : RawChar,
        let ones := (charBits c).count true - (if c.stop then 1 else 0)
        let becomes : DiscardReason → Prop := fun why =>
          exec (.errorCharacter c) s = .next { s with rx := { s.rx with state := .errored a why } }
        (c.stop = false → becomes .framing) ∧
        (c.stop = true → ones % 2 = 1 → becomes .parity) ∧
        (c.stop = true → ones % 2 = 0 → c.kind = true → c.octet ≠ 0xA5 → c.octet ≠ 0x5A → becomes .strayControl) ∧
        (c.stop = true → ones % 2 = 0 → c.kind = false ∨ c.octet = 0xA5 ∨ c.octet = 0x5A →
          exec (.errorCharacter c) s = .next s)) ∧
    ((∀ a, s.rx.state ≠ .assembling a) →
      (∀ o, exec (.dataCharacter o) s = .next s) ∧ ∀ c, exec (.errorCharacter c) s = .next s)

/-- Outside a break, BREAK discards a frame held in ASSEMBLING with reason BREAK and one in ERRORED with its own reason
(buffer freed, count raised unless 255, LINE_ERRORS evaluated); from HUNTING and SKIPPING it only begins. In every
case the receiver holds no frame and is in a break; that it stands in HUNTING meanwhile is the model's choice (log
29). While SETTLING, and within a break, it does nothing. (section 1.1, section 1.3) -/
def Obligations.BreakEndsFrame : Prop :=
  ∀ s : State, s.resetHeld = false →
    let ended : DiscardReason → State := fun why =>
      { s with rx := { state := .hunting, badCount := min 255 (s.rx.badCount + 1), lastDiscard := why, inBreak := true,
                       freeBuffers := s.rx.freeBuffers + 1 } }.evalLineErrors
    (s.rx.inBreak = false →
      (s.rx.state = .hunting ∨ s.rx.state = .skipping →
        exec .lineBreak s = .next { s with rx := { s.rx with state := .hunting, inBreak := true } }) ∧
      (∀ a, s.rx.state = .assembling a → exec .lineBreak s = .next (ended .brk).settle) ∧
      (∀ a why, s.rx.state = .errored a why → exec .lineBreak s = .next (ended why).settle)) ∧
    (s.rx.inBreak = true ∨ (∃ since, s.rx.state = .settling since) → exec .lineBreak s = .next s)

/-- In ASSEMBLING an FE discards the frame as SHORT with fewer than 9 octets, else as LENGTH_MISMATCH when the seventh
octet is not the octet count less 9, else as CRC when the register over all but the last two octets differs from
them; in ERRORED with the recorded reason. The buffer returns, the count rises unless 255, LINE_ERRORS is evaluated,
the receiver hunts. In SKIPPING it ends the skipping; in HUNTING and SETTLING it does nothing. (section 1.3, section
1.4) -/
def Obligations.FeDiscardsBadFrame : Prop :=
  ∀ s : State, s.resetHeld = false →
    let ended : DiscardReason → State := fun why =>
      { s with rx := { s.rx with state := .hunting, badCount := min 255 (s.rx.badCount + 1), lastDiscard := why,
                                 freeBuffers := s.rx.freeBuffers + 1 } }.evalLineErrors
    (∀ a, s.rx.state = .assembling a →
      let n := a.octets.length
      (n < 9 → exec .fe s = .next (ended .short).settle) ∧
      (9 ≤ n → (a.octets.getD 6 0).toNat ≠ n - 9 → exec .fe s = .next (ended .lengthMismatch).settle) ∧
      (9 ≤ n → (a.octets.getD 6 0).toNat = n - 9 →
        crcOf (a.octets.take (n - 2)) ≠ a.octets.getD (n - 2) 0 ++ a.octets.getD (n - 1) 0 →
        exec .fe s = .next (ended .crc).settle)) ∧
    (∀ a why, s.rx.state = .errored a why → exec .fe s = .next (ended why).settle) ∧
    (s.rx.state = .skipping → exec .fe s = .next { s with rx := { s.rx with state := .hunting } }) ∧
    (s.rx.state = .hunting ∨ (∃ since, s.rx.state = .settling since) → exec .fe s = .next s)

/-- For every frame with a payload of at most 240 octets: when the octets assembled are the ones a transmitter sends for
it (header, payload, CRC high octet first), FE sets the consecutive bad frame count to 0, ends LINE_ERRORS if
active, goes to HUNTING, and classifies exactly that frame with the arrival it was stamped with, in one event. That
the count is cleared and the end of LINE_ERRORS reported before the frame is classified is the model's choice (log
28). Each octet's character, as a transmitter forms it, is read as that data character, and FS and FE as themselves.
(section 1.3, section 1.4, section 11.1, section 11.2, section 1.1) -/
def Obligations.SentFrameIsReceivedAsItself : Prop :=
  (∀ (s : State) (f : Frame) (a : Assembly), s.resetHeld = false → f.payload.length ≤ 240 →
    s.rx.state = .assembling a → a.octets = f.withCrc →
    exec .fe s = .next
      ({ s with rx := { s.rx with state := .hunting, badCount := 0 } }.evalLineErrors.classify
        { frame := f, arrival := a.arrival, arrivalOffset := a.arrivalOffset }).settle) ∧
  (∀ o : Octet, charClassify (charOfOctet false o) = .data o) ∧
  charClassify (charOfOctet true 0xA5) = .fs ∧ charClassify (charOfOctet true 0x5A) = .fe

/-- The register after no octet is 0xFFFF, after 0x00 it is 0xE1F0, and after the ASCII digits 1 to 9 it is 0x29B1. Run
on over a complete frame, its two CRC octets included, it ends at 0 exactly when the check passes. Two octet
sequences that differ in one octet only, as a frame whose Mark was changed, have different registers. (section 11.2,
section 1.4) -/
def Obligations.CrcDetectsOneOctet : Prop :=
  crcOf [] = 0xFFFF ∧ crcOf [0x00] = 0xE1F0 ∧
  crcOf [0x31, 0x32, 0x33, 0x34, 0x35, 0x36, 0x37, 0x38, 0x39] = 0x29B1 ∧
  (∀ (octets : List Octet) (hi lo : Octet), crcOf (octets ++ [hi, lo]) = 0 ↔ crcOf octets = hi ++ lo) ∧
  ∀ (before after : List Octet) (x y : Octet), x ≠ y → crcOf (before ++ x :: after) ≠ crcOf (before ++ y :: after)

/-- A frame of Kind 0x80 or above whose Src the table holds is removed. A broadcast that is neither a SYNC nor a
CONTROL, a frame for no entry, a broadcast SYNC that is not from TimeSource or not of 11 octets, and a broadcast
CONTROL whose payload is not one octet of a command with a broadcast form, or whose Src is not authorised, are
carried with their Mark as it came, and not acted on. A frame for an entry keeps a Mark that is not CLEAR and passes
with Kind 0x80 or above; else it gets MALFORMED for an unknown kind or SYNC, REFUSED for a kind not permitted or a
non-owner's WRITE or CONTROL, MALFORMED for a payload of the wrong form, BUSY with 8 replies queued. Carried means:
Hops one less at the Forward Queue's tail, or with Hops 0 the buffer freed; nothing else changes. (section 2.2,
section 2.3) -/
def Obligations.ClassifyDisposes : Prop :=
  ∀ (s : State) (f : Received),
    let removed : State := { s with rx := { s.rx with freeBuffers := s.rx.freeBuffers + 1 } }
    let carried : Octet → State := fun mark =>
      if f.frame.hops = 0 then removed
      else { s with port := { s.port with forward := s.port.forward ++
        [{ frame := { f.frame with hops := f.frame.hops - 1, mark := mark }, arrival := f.arrival,
           arrivalOffset := f.arrivalOffset, restartMark := false }] } }
    let held : Octet → Prop := fun a => ∃ i : Fin 8, ∃ e, s.addr[i] = some e ∧ e.address = a
    (0x80 ≤ f.frame.kind.toNat → held f.frame.src → s.classify f = removed) ∧
    (f.frame.kind.toNat < 0x80 ∨ ¬ held f.frame.src →
      (f.frame.dest = 0xFF → f.frame.kind ≠ 0x01 → f.frame.kind ≠ 0x32 → s.classify f = carried f.frame.mark) ∧
      (f.frame.dest = 0xFF → f.frame.kind = 0x01 →
        f.frame.src ≠ s.cfg.timeSource ∨ f.frame.payload.length ≠ 11 → s.classify f = carried f.frame.mark) ∧
      (f.frame.dest = 0xFF → f.frame.kind = 0x32 →
        f.frame.payload ∉ [[(1 : Octet)], [2], [3], [4], [6]] ∨ (s.owner ≠ 0xFF ∧ s.owner ≠ f.frame.src) →
        s.classify f = carried f.frame.mark) ∧
      (f.frame.dest ≠ 0xFF → ¬ held f.frame.dest → s.classify f = carried f.frame.mark) ∧
      ∀ e, f.frame.dest ≠ 0xFF → s.station f.frame.dest = some e →
        (f.frame.mark ≠ 0 ∨ 0x80 ≤ f.frame.kind.toNat → s.classify f = carried f.frame.mark) ∧
        (f.frame.mark = 0 → f.frame.kind.toNat < 0x80 →
          let known := f.frame.kind ∈ [(0x10 : Octet), 0x11, 0x20, 0x30, 0x31, 0x32]
          let permitted :=
            (f.frame.kind ∈ [(0x10 : Octet), 0x11] ∧ e.sched = true) ∨ (f.frame.kind = 0x20 ∧ e.capt = true) ∨
            (f.frame.kind ∈ [(0x30 : Octet), 0x31, 0x32] ∧ e.mgmt = true)
          let foreign := f.frame.kind ∈ [(0x31 : Octet), 0x32] ∧ s.owner ≠ 0xFF ∧ s.owner ≠ f.frame.src
          let formed := ∃ r, parseRequest f.frame.kind f.frame.payload = some r ∧ r.wellFormed = true
          (¬ known → s.classify f = carried 4) ∧
          (known → ¬ permitted → s.classify f = carried 3) ∧
          (known → permitted → foreign → s.classify f = carried 3) ∧
          (known → permitted → ¬ foreign → ¬ formed → s.classify f = carried 4) ∧
          (known → permitted → ¬ foreign → formed → 8 ≤ s.port.replies.length → s.classify f = carried 2)))

/-- For each request kind, the payload spells a well-formed request exactly when its length and the fields that the
Classifier checks are as the table of section 2.2 says: SCHEDULE 1 + 16n octets with n in 1-14 and no Mode of 3,
CANCEL 4 octets with a known Selector and a Channel up to 15 for BY_CHANNEL, POLL 4 octets with MaxCount 1-16, READ
2 octets, WRITE at least 2 with the named object's value length, CONTROL one octet of 1-8. (section 2.2, section
11.3, section 11.5) -/
def Obligations.RequestForms : Prop :=
  ∀ payload : List Octet,
    let formed : Octet → Prop := fun kind => ∃ r, parseRequest kind payload = some r ∧ r.wellFormed = true
    let at' : Nat → Octet := fun i => payload.getD i 0
    (formed 0x10 ↔ ∃ n, 1 ≤ n ∧ n ≤ 14 ∧ payload.length = 1 + 16 * n ∧
      ∀ i < n, (at' (1 + 16 * i + 2)).toNat % 4 ≠ 3) ∧
    (formed 0x11 ↔ payload.length = 4 ∧ (at' 0 = 1 ∨ (at' 0 = 2 ∧ (at' 3).toNat ≤ 15) ∨ at' 0 = 3)) ∧
    (formed 0x20 ↔ payload.length = 4 ∧ 1 ≤ (at' 3).toNat ∧ (at' 3).toNat ≤ 16) ∧
    (formed 0x30 ↔ payload.length = 2) ∧
    (formed 0x31 ↔ 2 ≤ payload.length ∧
      (ObjectNamed (at' 0) (at' 1) →
        payload.length - 2 = [5, 22, 2, 4, 6, 9, 1, 8, 10].getD ((at' 0).toNat - 1) 0)) ∧
    (formed 0x32 ↔ payload.length = 1 ∧ 1 ≤ (at' 0).toNat ∧ (at' 0).toNat ≤ 8)

/-- Taking a frame that carries a request other than RESTART, addressed to an entry that takes it, is the row of that
request on the state in which the frame stands in the Forward Queue with Mark TAKEN and one Hop less (or with Hops 0
its buffer is free). A broadcast SYNC that the Time Base accepts, and a broadcast CONTROL with a command other than
RESTART, are their rows on the state with the frame carried unmarked. The row's own form is the model's (log 6).
(section 2.2, section 2.3) -/
def Obligations.FePerformsTheRow : Prop :=
  ∀ (s : State) (f : Received), s.resetHeld = false → f.frame.kind.toNat < 0x80 →
    let kept : Octet → State := fun mark =>
      if f.frame.hops = 0 then { s with rx := { s.rx with freeBuffers := s.rx.freeBuffers + 1 } }
      else { s with port := { s.port with forward := s.port.forward ++
        [{ frame := { f.frame with hops := f.frame.hops - 1, mark := mark }, arrival := f.arrival,
           arrivalOffset := f.arrivalOffset, restartMark := false }] } }
    (∀ e r c, s.Takes { dest := f.frame.dest, src := f.frame.src, seq := f.frame.seq } f.frame.kind e →
      f.frame.mark = 0 → requestKind f.frame.kind = true → parseRequest f.frame.kind f.frame.payload = some r →
      r.wellFormed = true → f.frame.row f.arrival = some c →
      exec c (kept 1) = .next (s.classify f).settle) ∧
    (f.frame.dest = 0xFF → f.frame.kind = 0x01 → f.frame.src = s.cfg.timeSource → f.frame.payload.length = 11 →
      exec (.sync f.frame.src f.arrival f.frame.payload) (kept f.frame.mark) = .next (s.classify f).settle) ∧
    (∀ c, f.frame.dest = 0xFF → f.frame.kind = 0x32 → f.frame.row f.arrival = some c →
      exec c (kept f.frame.mark) = .next (s.classify f))

/-- A READ that an entry takes queues one reply descriptor, with the result code OK when the code and index name one of
the nine objects and NO_OBJECT otherwise, and the object and index for transmit start; nothing else of the state
changes but what the end of the event does to the Output Port. The value that a READ of each of the nine objects
sends is written out here octet by octet, numbers high octet first, with the codes of the states, discard reasons,
rates, safe levels, edges and actions: IDENT, STATUS, CONFIG by index, ADDRESS and its EMPTY form, CHANNEL, TRIGGER,
FAULT, CHANNEL_STATE with the remaining pulse ticks 0 once the instant is reached, and CAPTURE_CONFIG. (section
10.2, section 2.4, section 11.5, section 11.4) -/
def Obligations.ReadAnswers : Prop :=
  (∀ (s : State) (h : ReqHeader) (object index : Octet) (e : Station), s.Takes h 0x30 e →
    (ObjectNamed object index →
      exec (.read h object index) s = .next (s.answered h .reply (.read .ok object index)).settle) ∧
    (¬ ObjectNamed object index →
      exec (.read h object index) s = .next (s.answered h .reply (.read .noObject object index)).settle)) ∧
  ∀ s : State,
    let octet : Nat → Octet := BitVec.ofNat 8
    let high : Nat → Nat → List Octet := fun n v => (List.range n).map fun i => octet (v / 256 ^ (n - 1 - i))
    let bit : Bool → Nat → Nat := fun b v => if b then v else 0
    let edge : EdgeSelect → Octet := fun
      | .rising => 1
      | .falling => 2
      | .both => 3
    s.objectValue 0x01 0 = [0x3A, 0x51, 0x53, 0x12, 0x01] ∧
    s.objectValue 0x02 0 =
      ([(match s.sched.state with
         | .halted => 0
         | .running => 1
         | .frozen => 2),
        (match s.time.sync with
         | .unsynced => 0
         | .acquiring => 1
         | .locked => 2
         | .holdover => 3)] : List Octet) ++
      high 2 s.sched.free.length ++
      [octet s.cap.ring.length, octet s.notices.queue.length, octet s.port.replies.length, octet s.rx.freeBuffers,
       octet s.rx.badCount,
       (match s.rx.lastDiscard with
        | .none => 0
        | .noBuffer => 1
        | .brk => 2
        | .framing => 3
        | .parity => 4
        | .strayControl => 5
        | .truncated => 6
        | .overlength => 7
        | .short => 8
        | .lengthMismatch => 9
        | .crc => 10),
       (match s.rate with
        | .mbit1 => 1
        | .mbit2 => 2
        | .mbit4 => 4
        | .mbit8 => 8)] ++
      high 4 s.sched.curSlot.toNat ++ high 6 s.lineTime.toNat ++ [s.owner] ∧
    (∀ (i : Nat) (v : Nat), i < 24 →
      ([s.cfg.slotExp, s.cfg.lead, s.cfg.window, s.cfg.catchUpLimit, s.cfg.stepLimit, s.cfg.syncTimeout,
        s.cfg.holdoverLimit, s.cfg.linkDelay,
        (match s.cfg.lineRate with
         | .mbit1 => 1
         | .mbit2 => 2
         | .mbit4 => 4
         | .mbit8 => 8),
        s.cfg.arbiterRatio, s.cfg.lineErrorLimit, s.cfg.replyHops, s.cfg.reportAddress.toNat, s.cfg.timeSource.toNat,
        bit s.cfg.reportAbnormal 1, bit s.cfg.faultNotices 1] ++
        s.cfg.responses.toList.map fun r => if r = .freeze then 1 else 0)[i]? = some v →
      s.objectValue 0x03 (octet i) = high 2 v) ∧
    (∀ n : Fin 8, s.addr[n] = none → s.objectValue 0x04 (octet n.val) = [0, 0, 0, 0x80]) ∧
    (∀ (n : Fin 8) (e : Station), s.addr[n] = some e → s.objectValue 0x04 (octet n.val) =
      [e.address] ++ high 2 e.mask.toNat ++ [octet (bit e.sched 1 + bit e.capt 2 + bit e.mgmt 4)]) ∧
    (∀ n : Fin 16, let c := s.out.table[n]
      s.objectValue 0x05 (octet n.val) =
        [octet (bit c.enabled 1 + bit c.invert 2),
         (match c.safeLevel with
          | .inactive => 0
          | .active => 1
          | .hold => 2),
         octet c.actionMask.toNat] ++ high 3 c.maxPulse.toNat) ∧
    (∀ n : Fin 8, let t := s.cap.triggers[n]
      s.objectValue 0x06 (octet n.val) =
        [octet (bit t.enabled 1 + bit t.oneShot 2 + bit t.report 4), octet t.line.val, edge t.edge,
         octet t.channel.val,
         (match t.action with
          | .set => 1
          | .clear => 2
          | .toggle => 3
          | .pulse => 4)] ++ high 3 t.width.toNat ++ [t.delay]) ∧
    s.objectValue 0x07 0 = [s.faults.latched, s.faults.active] ∧
    (∀ n : Fin 16, let c := s.out.chans[n]
      ∀ ticks : Nat,
        (c.pulseEnd = none ∧ ticks = 0) ∨ (∃ ends, c.pulseEnd = some ends ∧
          ((s.At ends ∧ ticks = 0) ∨ (¬ s.At ends ∧ ticks = (ends - s.time.localCount).toNat))) →
        s.objectValue 0x08 (octet n.val) =
          [octet (bit c.level 1 + bit c.pulseEnd.isSome 2 + bit c.lastTag.isSome 4)] ++ high 3 ticks ++
          high 2 (c.lastTag.getD 0).toNat ++ high 2 (s.sched.wheel.filter fun r => r.channel = n).length) ∧
    s.objectValue 0x09 0 = [s.cap.enable] ++ s.cap.edges.toList.map edge ++ [s.cap.filterTime]

/-- A POLL with MaxCount 1-16 that an entry takes removes, when bit 0 of AckValid is set and AckSeq lies in the reported
span, the records from the oldest to the one with that Seq, and otherwise none; HighestReported, the next sequence
number and the gap-pending flag stay; a REPORT descriptor with the MaxCount is queued. (section 8.4, section 2.4) -/
def Obligations.PollAcknowledges : Prop :=
  ∀ (s : State) (h : ReqHeader) (ackValid : Octet) (ackSeq : Half) (maxCount : Octet) (e : Station), s.Takes h 0x20 e →
    1 ≤ maxCount.toNat → maxCount.toNat ≤ 16 →
    (∀ oldest rest, s.cap.ring = oldest :: rest → ackValid.getLsbD 0 = true → s.cap.InReportedSpan ackSeq →
      exec (.poll h ackValid ackSeq maxCount) s = .next
        ({ s with cap := { s.cap with ring := s.cap.ring.drop ((ackSeq - oldest.seq).toNat + 1) } }.answered h .report
          (.report maxCount)).settle) ∧
    (ackValid.getLsbD 0 = false ∨ ¬ s.cap.InReportedSpan ackSeq →
      exec (.poll h ackValid ackSeq maxCount) s = .next (s.answered h .report (.report maxCount)).settle)

/-- For a SCHEDULE of one descriptor, ATOMIC or not, that an entry takes while not HALTED: when a check of section 5.3
fails and none before it does, the reply carries its code and nothing else changes; when none fails, the head of the
free list is linked at the tail, filled from the descriptor with the Due its Mode names, and the reply carries
ACCEPTED. While HALTED every descriptor of a frame of 1 to 14 gets HALTED and nothing is linked. The codes of the
twelve results, in the order of the checks, are 2 to 13. For an ARRIVAL Target above 255 check 9 is made on the Due
first (log 12). (section 5.1, section 5.2, section 5.3, section 4.1, section 11.4) -/
def Obligations.ScheduleChecksInOrder : Prop :=
  checkOrder.map DescResult.code = [2, 3, 4, 5, 6, 7, 8, 9, 10, 11, 12, 13] ∧
  ∀ (s : State) (h : ReqHeader) (arrival : Ticks) (flags : Octet) (e : Station), s.Takes h 0x10 e →
    let arrivalSlot := slotOf s.cfg.slotExp arrival
    (∀ d : Descriptor, d.modeFlags.toNat % 4 ≠ 3 → s.sched.state ≠ .halted →
      (∀ k (hk : k < checkOrder.length), s.Fails e arrivalSlot d checkOrder[k] →
        (∀ j (hj : j < checkOrder.length), j < k → ¬ s.Fails e arrivalSlot d checkOrder[j]) →
        exec (.schedule h arrival flags [d]) s =
          .next (s.answered h .reply (.fixed [1, checkOrder[k].code])).settle) ∧
      ((∀ r, ¬ s.Fails e arrivalSlot d r) →
        ∀ id rest, s.sched.free = id :: rest →
        let record : ActionRecord :=
          { id := id
            due := s.namedDue arrivalSlot d
            channel := Fin.ofNat 16 d.channel.toNat
            action := if d.action = 1 then .set else if d.action = 2 then .clear else if d.action = 3 then .toggle
                      else .pulse (d.width.setWidth 24)
            tag := d.tag
            origin := .line h.src
            period := if d.count = 1 then none else some d.period
            remaining := if d.count = 0 then .unlimited else .times d.count.toNat
            fired := 0
            report := d.modeFlags.getLsbD 7 }
        exec (.schedule h arrival flags [d]) s = .next
          ({ s with sched := { s.sched with free := rest, wheel := s.sched.wheel ++ [record] } }.answered h .reply
            (.fixed [1, 0])).settle)) ∧
    (s.sched.state = .halted → ∀ ds : List Descriptor, 1 ≤ ds.length → ds.length ≤ 14 →
      (∀ d ∈ ds, d.modeFlags.toNat % 4 ≠ 3) →
      exec (.schedule h arrival flags ds) s =
        .next (s.answered h .reply (.fixed (BitVec.ofNat 8 ds.length :: List.replicate ds.length 1))).settle)

/-- Without ATOMIC, a SCHEDULE of descriptors d, ds taken while not HALTED gives d the result it would have as a frame
of its own, and ds the results they would have as a frame taken after it with everything else as it was; a frame of
one gets the first check that fails, or ACCEPTED; every descriptor has one result, in order; records are linked only
at the tail, one for each ACCEPTED result, taken from the head of the free list. A SCHEDULE row of 1 to 14
descriptors that an entry takes, ATOMIC or not and in every scheduler state, leaves what this treatment leaves and
answers the descriptor count and the codes of the results, in order. For an ARRIVAL Target above 255 check 9 is made
on the Due first, which is the model's reading (log 12). (section 5.4, section 5.1, section 5.3, section 11.4) -/
def Obligations.ScheduleAdmitsEach : Prop :=
  (∀ (s : State) (h : ReqHeader) (e : Station) (arrival : Ticks) (flags : Octet) (ds : List Descriptor),
    s.Takes h 0x10 e → 1 ≤ ds.length → ds.length ≤ 14 → (∀ d ∈ ds, d.modeFlags.toNat % 4 ≠ 3) →
    let all := s.takeSchedule h.src e.mask arrival flags ds
    exec (.schedule h arrival flags ds) s = .next
      (all.2.answered h .reply (.fixed (BitVec.ofNat 8 ds.length :: all.1.map DescResult.code))).settle) ∧
  (∀ (s : State) (src : Octet) (e : Station) (arrival : Ticks) (flags : Octet) (d : Descriptor),
    s.sched.state ≠ .halted → flags.getLsbD 0 = false → d.modeFlags.toNat % 4 ≠ 3 →
    let fails := s.Fails e (slotOf s.cfg.slotExp arrival) d
    (∀ k (hk : k < checkOrder.length), fails checkOrder[k] →
      (∀ j (hj : j < checkOrder.length), j < k → ¬ fails checkOrder[j]) →
      s.takeSchedule src e.mask arrival flags [d] = ([checkOrder[k]], s)) ∧
    ((∀ r, ¬ fails r) → (s.takeSchedule src e.mask arrival flags [d]).1 = [.accepted])) ∧
  ∀ (s : State) (src : Octet) (mask : BitVec 16) (arrival : Ticks) (flags : Octet), s.sched.state ≠ .halted →
    flags.getLsbD 0 = false →
    (∀ d ds,
      let first := s.takeSchedule src mask arrival flags [d]
      let others := first.2.takeSchedule src mask arrival flags ds
      s.takeSchedule src mask arrival flags (d :: ds) = (first.1 ++ others.1, others.2)) ∧
    ∀ ds, let all := s.takeSchedule src mask arrival flags ds
      all.1.length = ds.length ∧
      ∃ added : List ActionRecord, added.length = all.1.count .accepted ∧
        added.map (·.id) = s.sched.free.take added.length ∧
        all.2 = { s with sched := { s.sched with
          free := s.sched.free.drop added.length, wheel := s.sched.wheel ++ added } }

/-- A SCHEDULE with ATOMIC of 1 to 14 descriptors, taken while not HALTED in a state whose pool is whole, is judged by
the same frame without ATOMIC: when that one answers ACCEPTED for every descriptor, it leaves exactly what that one
leaves and answers ACCEPTED for all; when the first result of that one that is not ACCEPTED is r, of descriptor k,
it answers WITHDRAWN for the descriptors before k, r for k and NOT_ATTEMPTED after it, the wheel and everything else
are as they were, and the same records are free. (section 5.4, section 5.1) -/
def Obligations.ScheduleAtomicIsAllOrNothing : Prop :=
  ∀ (s : State) (h : ReqHeader) (arrival : Ticks) (flags : Octet) (ds : List Descriptor) (e : Station),
    s.Takes h 0x10 e → s.PoolWhole → s.sched.state ≠ .halted → flags.getLsbD 0 = true →
    1 ≤ ds.length → ds.length ≤ 14 → (∀ d ∈ ds, d.modeFlags.toNat % 4 ≠ 3) →
    let each := s.takeSchedule h.src e.mask arrival 0 ds
    ((∀ r ∈ each.1, r = DescResult.accepted) → exec (.schedule h arrival flags ds) s = .next
      (each.2.answered h .reply (.fixed (BitVec.ofNat 8 ds.length :: List.replicate ds.length 0))).settle) ∧
    ∀ (k : Nat) (r : DescResult), each.1[k]? = some r → r ≠ .accepted → (∀ j < k, each.1[j]? = some DescResult.accepted) →
      ∃ free : List Nat, free.Perm s.sched.free ∧
        exec (.schedule h arrival flags ds) s = .next
          ({ s with sched := { s.sched with free := free } }.answered h .reply (.fixed (BitVec.ofNat 8 ds.length ::
            (List.replicate k 14 ++ r.code :: List.replicate (ds.length - k - 1) 15)))).settle

/-- A CANCEL of a known Selector that an entry takes, in a state whose pool is whole, leaves linked exactly the records
that do not match its Selector within the entry's ChannelMask, in their order, and answers the count of the others
in two octets. The others are freed in the order of the walk, from the list after the current slot's round to the
current slot's, each list in link order; each of them that has Report set offers a notice in that order, with its
Tag, Channel, Origin and Fired, outcome CANCELLED, and line time. If none has Report set, no notice is offered, and
channels, faults, notices and the scheduler state stay as they were. That the reply joins the Reply Queue ahead of a
NOTICE descriptor for these notices is the model's choice (log 8). (section 5.5, section 6.3) -/
def Obligations.CancelRemovesTheMatches : Prop :=
  ∀ (s : State) (h : ReqHeader) (selector : Octet) (tag : Half) (channel : Octet) (e : Station), s.Takes h 0x11 e →
    s.PoolWhole → (selector = 1 ∨ (selector = 2 ∧ channel.toNat ≤ 15) ∨ selector = 3) →
    let gone := s.sched.wheel.filter fun r => Cancels e selector tag channel r
    let walk := (List.range 256).flatMap fun k =>
      gone.filter fun r => r.due.toNat % 256 = (s.sched.curSlot.toNat + 1 + k) % 256
    let freed : State := { s with sched := { s.sched with
      free := s.sched.free ++ walk.map ActionRecord.id
      wheel := s.sched.wheel.filter fun r => ¬ Cancels e selector tag channel r } }
    let u := (walk.filter fun r => r.report = true).foldl (fun t r =>
      t.offerNotice (.completion r.tag r.channel .cancelled r.origin r.fired s.lineTime)) freed
    exec (.cancel h selector tag channel) s =
      .next (u.answered h .reply (.fixed [BitVec.ofNat 8 (gone.length / 256), BitVec.ofNat 8 gone.length])).settle ∧
    walk.Perm gone ∧ u.sched.wheel = freed.sched.wheel ∧ u.sched.free.length = s.sched.free.length + gone.length ∧
    u.sched.curSlot = s.sched.curSlot ∧
    u.rx = s.rx ∧ u.port = s.port ∧ u.time = s.time ∧ u.cap = s.cap ∧ u.out.table = s.out.table ∧ u.addr = s.addr ∧
    u.owner = s.owner ∧ u.cfg = s.cfg ∧ u.faults.active = s.faults.active ∧
    ((∀ r ∈ gone, r.report = false) →
      u.out = s.out ∧ u.faults = s.faults ∧ u.notices = s.notices ∧ u.sched.state = s.sched.state)

/-- A WRITE that an entry takes of an object that does not exist answers NO_OBJECT whatever its value; of IDENT, STATUS
or CHANNEL_STATE with a value of its length READ_ONLY; neither changes anything else. The seven result codes are 0
to 6. A WRITE of an object with a write behaviour of its own is that object's row (log 20). A value of the wrong
length for an object that exists does nothing. (section 10.3, section 10.2, section 11.5, section 11.4) -/
def Obligations.WriteNamesItsObject : Prop :=
  [MgmtResult.ok, .noObject, .readOnly, .range, .state, .duplicate, .lockout].map MgmtResult.code =
    [0, 1, 2, 3, 4, 5, 6] ∧
  ∀ (s : State) (h : ReqHeader) (object index : Octet) (value : List Octet) (e : Station), s.Takes h 0x31 e →
    (¬ ObjectNamed object index → exec (.write h object index value) s = .next (s.resulted h .noObject).settle) ∧
    (ObjectNamed object index →
      (object = 0x01 ∧ value.length = 5 ∨ object = 0x02 ∧ value.length = 22 ∨ object = 0x08 ∧ value.length = 8 →
        exec (.write h object index value) s = .next (s.resulted h .readOnly).settle) ∧
      (value.length ≠ [5, 22, 2, 4, 6, 9, 1, 8, 10].getD (object.toNat - 1) 0 →
        exec (.write h object index value) s = .next s) ∧
      (∀ a b, object = 0x03 → value = [a, b] →
        exec (.write h object index value) s = exec (.writeConfig h index (a ++ b)) s) ∧
      (∀ a m n f, object = 0x04 → value = [a, m, n, f] → exec (.write h object index value) s =
        exec (.writeAddress h (Fin.ofNat 8 index.toNat) { address := a, mask := m ++ n, flags := f }) s) ∧
      (∀ f l a p q r, object = 0x05 → value = [f, l, a, p, q, r] → exec (.write h object index value) s =
        exec (.writeChannel h (Fin.ofNat 16 index.toNat)
          { flags := f, safeLevel := l, actionMask := a, maxPulse := p ++ q ++ r }) s) ∧
      (∀ f l g c a p q r d, object = 0x06 → value = [f, l, g, c, a, p, q, r, d] →
        exec (.write h object index value) s = exec (.writeTrigger h (Fin.ofNat 8 index.toNat)
          { flags := f, line := l, edge := g, channel := c, action := a, width := p ++ q ++ r, delay := d }) s) ∧
      (∀ m, object = 0x07 → value = [m] → exec (.write h object index value) s = exec (.writeFault h m) s) ∧
      (∀ n a b c d e' f g i t, object = 0x09 → value = [n, a, b, c, d, e', f, g, i, t] →
        exec (.write h object index value) s =
          exec (.writeCaptureConfig h { enable := n, edges := #v[a, b, c, d, e', f, g, i], filterTime := t }) s))

/-- A CONFIG write that an entry takes answers NO_OBJECT for an index above 23, RANGE for a value outside the field's
range (Lead against Window included), and otherwise OK, with that field reading back the value and every other field
as it was. SlotExp is refused STATE unless HALTED; then a change of it also moves the current slot number to line
time's slot at the new width, and written to the value it holds it changes nothing (log 22); LineErrorLimit is
followed by the LINE_ERRORS evaluation. The rows of SlotExp and LineErrorLimit are those of their indices (log 20).
That the reply joins the Reply Queue ahead of the descriptor for a FAULT notice of that evaluation is the model's
choice (log 8). (section 10.4, section 10.3, section 3.2, section 1.6) -/
def Obligations.WriteConfigSetsOneField : Prop :=
  ∀ (s : State) (h : ReqHeader) (index : Octet) (value : Half) (e : Station), s.Takes h 0x31 e →
    let written : ConfigFields → Prop := fun c => c.get index.toNat = value.toNat ∧
      ∀ j < 24, j ≠ index.toNat → c.get j = s.cfg.get j
    (24 ≤ index.toNat → exec (.writeConfig h index value) s = .next (s.resulted h .noObject).settle) ∧
    (index.toNat < 24 → ¬ ConfigRange s.cfg index.toNat value.toNat →
      exec (.writeConfig h index value) s = .next (s.resulted h .range).settle) ∧
    (ConfigRange s.cfg index.toNat value.toNat → ∃ c, written c ∧
      (index ≠ 0 → index ≠ 10 →
        exec (.writeConfig h index value) s = .next ({ s with cfg := c }.resulted h .ok).settle) ∧
      (index = 10 →
        exec (.writeConfig h index value) s = .next ({ s with cfg := c }.evalLineErrors.resulted h .ok).settle) ∧
      (index = 0 → s.sched.state = .halted → value.toNat = s.cfg.slotExp →
        exec (.writeConfig h index value) s = .next (s.resulted h .ok).settle) ∧
      (index = 0 → s.sched.state = .halted → value.toNat ≠ s.cfg.slotExp → exec (.writeConfig h index value) s = .next
        ({ s with cfg := c, sched := { s.sched with curSlot := slotOf value.toNat s.lineTime } }.resulted h .ok).settle) ∧
      (index = 0 → s.sched.state ≠ .halted →
        exec (.writeConfig h index value) s = .next (s.resulted h .state).settle)) ∧
    exec (.writeSlotExp h value) s = exec (.writeConfig h 0 value) s ∧
    exec (.writeLineErrorLimit h value) s = exec (.writeConfig h 10 value) s

/-- An ADDRESS write that an entry takes, with bit 7 of its flags clear: RANGE for an Address of 0x00 or 0xFF, DUPLICATE
when another entry holds the Address; then, for EMPTY too, LOCKOUT when no entry of the resulting table would have
MGMT; else OK, and entry n holds the Address, mask and flags, or is EMPTY. (section 10.3, section 11.5) -/
def Obligations.WriteAddressKeepsTheRules : Prop :=
  ∀ (s : State) (h : ReqHeader) (n : Fin 8) (v : AddressValue) (e : Station), s.Takes h 0x31 e →
    let entry : Option Station :=
      if v.flags.getLsbD 7 = true then none
      else some { address := v.address, mask := v.mask, sched := v.flags.getLsbD 0, capt := v.flags.getLsbD 1,
                  mgmt := v.flags.getLsbD 2 }
    let answers : MgmtResult → Prop := fun r => exec (.writeAddress h n v) s = .next (s.resulted h r).settle
    let outOfRange := v.flags.getLsbD 7 = false ∧ (v.address = 0x00 ∨ v.address = 0xFF)
    let taken := v.flags.getLsbD 7 = false ∧ ∃ m : Fin 8, m ≠ n ∧ ∃ g, s.addr[m] = some g ∧ g.address = v.address
    let locked := ∀ (m : Fin 8) g, (s.addr.set n entry)[m] = some g → g.mgmt = false
    (outOfRange → answers .range) ∧
    (¬ outOfRange → taken → answers .duplicate) ∧
    (¬ outOfRange → ¬ taken → locked → answers .lockout) ∧
    (¬ outOfRange → ¬ taken → ¬ locked → exec (.writeAddress h n v) s =
      .next ({ s with addr := s.addr.set n entry }.resulted h .ok).settle)

/-- A CHANNEL write that an entry takes is refused RANGE for a SafeLevel above 2 or a MaxPulse of 0, and changes
nothing. Otherwise it is OK and replaces the whole entry; when it turns Enabled from on to off, the channel's Level
becomes INACTIVE and PulseEnd is removed, LastTag unchanged; in the other three cases the channel stays as it was.
(section 7.7, section 10.3) -/
def Obligations.WriteChannelReplacesTheEntry : Prop :=
  ∀ (s : State) (h : ReqHeader) (n : Fin 16) (v : ChannelValue) (e : Station), s.Takes h 0x31 e →
    (2 < v.safeLevel.toNat ∨ v.maxPulse = 0 →
      exec (.writeChannel h n v) s = .next (s.resulted h .range).settle) ∧
    (v.safeLevel.toNat ≤ 2 → v.maxPulse ≠ 0 →
      let entry : ChannelEntry :=
        { enabled := v.flags.getLsbD 0, invert := v.flags.getLsbD 1
          safeLevel := if v.safeLevel = 0 then .inactive else if v.safeLevel = 1 then .active else .hold
          actionMask := v.actionMask.setWidth 4, maxPulse := v.maxPulse }
      (s.out.table[n].enabled = true → v.flags.getLsbD 0 = false → exec (.writeChannel h n v) s = .next
        ({ s with out := { table := s.out.table.set n entry
                           chans := s.out.chans.set n { s.out.chans[n] with level := false, pulseEnd := none } }
          }.resulted h .ok).settle) ∧
      (s.out.table[n].enabled = false ∨ v.flags.getLsbD 0 = true → exec (.writeChannel h n v) s = .next
        ({ s with out := { s.out with table := s.out.table.set n entry } }.resulted h .ok).settle))

/-- A TRIGGER write that an entry takes is refused RANGE for a Line above 7, an Edge or Action outside its codes, a
Channel above 15, a Width of 0 or a Delay of 0, and otherwise replaces entry n whole. A CAPTURE_CONFIG write is
refused RANGE when a line's Edge is outside its codes, and otherwise replaces the enables, edges and FilterTime;
candidates, ring and triggers stay. (section 10.3, section 8.1, section 8.6) -/
def Obligations.WriteTriggerAndCaptureConfig : Prop :=
  ∀ (s : State) (h : ReqHeader) (e : Station), s.Takes h 0x31 e →
    (∀ (n : Fin 8) (v : TriggerValue),
      let bad := 8 ≤ v.line.toNat ∨ v.edge = 0 ∨ 4 ≤ v.edge.toNat ∨ 16 ≤ v.channel.toNat ∨ v.action = 0 ∨
        5 ≤ v.action.toNat ∨ v.width = 0 ∨ v.delay = 0
      let entry : TriggerEntry :=
        { enabled := v.flags.getLsbD 0, oneShot := v.flags.getLsbD 1, report := v.flags.getLsbD 2
          line := Fin.ofNat 8 v.line.toNat, channel := Fin.ofNat 16 v.channel.toNat
          edge := if v.edge = 1 then .rising else if v.edge = 2 then .falling else .both
          action := if v.action = 1 then .set else if v.action = 2 then .clear
                    else if v.action = 3 then .toggle else .pulse
          width := v.width, delay := v.delay }
      (bad → exec (.writeTrigger h n v) s = .next (s.resulted h .range).settle) ∧
      (¬ bad → exec (.writeTrigger h n v) s =
        .next ({ s with cap := { s.cap with triggers := s.cap.triggers.set n entry } }.resulted h .ok).settle)) ∧
    ∀ v : CaptureValue,
      let bad := ∃ n : Fin 8, v.edges[n] = 0 ∨ 4 ≤ v.edges[n].toNat
      (bad → exec (.writeCaptureConfig h v) s = .next (s.resulted h .range).settle) ∧
      (¬ bad → exec (.writeCaptureConfig h v) s = .next
        ({ s with cap := { s.cap with
            enable := v.enable
            edges := v.edges.map fun c => if c = 1 then .rising else if c = 2 then .falling else .both
            filterTime := v.filterTime } }.resulted h .ok).settle)

/-- A FAULT write that an entry takes clears, in one event, each latched flag that the mask names and whose condition is
not active, keeps every other flag, answers OK followed by the set still latched, and changes no active-condition
flag, notice, channel or scheduler state; it is taken in every scheduler state, and STAT follows the flags left.
(section 9.4, section 9.3) -/
def Obligations.WriteFaultAcknowledges : Prop :=
  ∀ (s : State) (h : ReqHeader) (mask : Octet) (e : Station), s.Takes h 0x31 e → ∃ left : Octet,
    (∀ k : Fin 8, left.getLsbD k.val =
      (s.faults.latched.getLsbD k.val && !(mask.getLsbD k.val && !s.faults.active.getLsbD k.val))) ∧
    exec (.writeFault h mask) s = .next
      ({ s with faults := { s.faults with latched := left } }.answered h .reply (.fixed [0, left])).settle ∧
    { s with faults := { s.faults with latched := left } }.stat = decide (left ≠ 0)

/-- Taken: START in HALTED, and RESUME in FROZEN, with no FREEZE-response flag latched answer OK and set RUNNING; with
one latched, or in another state, they answer STATE and change nothing. HALT in RUNNING or FROZEN answers OK, sets
HALTED and frees every linked record without outcome or notice; in HALTED it answers OK and changes nothing. That
HALT's records join the free list in link order is the model's choice (log 14); R69 leaves the order open. (section
6.1, section 10.5) -/
def Obligations.StartResumeAndHalt : Prop :=
  ∀ (s : State) (h : ReqHeader) (e : Station), s.Takes h 0x32 e →
    let running : State := { s with sched := { s.sched with state := .running } }
    (s.sched.state = .halted → ¬ s.FreezeLatched → exec (.start h) s = .next (running.resulted h .ok).settle) ∧
    (s.sched.state ≠ .halted ∨ s.FreezeLatched → exec (.start h) s = .next (s.resulted h .state).settle) ∧
    (s.sched.state = .frozen → ¬ s.FreezeLatched → exec (.resume h) s = .next (running.resulted h .ok).settle) ∧
    (s.sched.state ≠ .frozen ∨ s.FreezeLatched → exec (.resume h) s = .next (s.resulted h .state).settle) ∧
    (s.sched.state ≠ .halted → exec (.halt h) s = .next
      ({ s with sched := { state := .halted, curSlot := s.sched.curSlot,
                           free := s.sched.free ++ s.sched.wheel.map ActionRecord.id, wheel := [] } }.resulted h .ok).settle) ∧
    (s.sched.state = .halted → exec (.halt h) s = .next (s.resulted h .ok).settle)

/-- Taken in RUNNING or FROZEN, CLEAR_WHEEL frees every linked record, as HALT does, without outcomes or notices, keeps
the scheduler state and answers OK; a START or RESUME test on the latched faults is as before. In HALTED it answers
OK and changes nothing. Channels, triggers and faults stay as they are. A broadcast CLEAR_WHEEL does nothing. That
the records join the free list in link order is the model's choice (log 14); R69 leaves the order open. (section
6.1, section 4.2, section 10.5) -/
def Obligations.ClearWheelFreesAll : Prop :=
  ∀ (s : State) (h : ReqHeader),
    (∀ e, s.Takes h 0x32 e →
      (s.sched.state ≠ .halted →
        let cleared : State :=
          { s with sched := { s.sched with free := s.sched.free ++ s.sched.wheel.map ActionRecord.id, wheel := [] } }
        exec (.clearWheel h) s = .next (cleared.resulted h .ok).settle ∧
        exec (.halt h) s =
          .next ({ cleared with sched := { cleared.sched with state := .halted } }.resulted h .ok).settle ∧
        (cleared.resulted h .ok).settle.sched = cleared.sched ∧
        (cleared.resulted h .ok).settle.out = s.out ∧
        (cleared.resulted h .ok).settle.cap.triggers = s.cap.triggers ∧
        (cleared.resulted h .ok).settle.faults = s.faults ∧
        ((cleared.resulted h .ok).settle.FreezeLatched ↔ s.FreezeLatched)) ∧
      (s.sched.state = .halted → exec (.clearWheel h) s = .next (s.resulted h .ok).settle)) ∧
    (h.dest = 0xFF → exec (.clearWheel h) s = .next s)

/-- Taken in any state, SAFE sets each of the 16 channels, enabled or not, INACTIVE, ACTIVE or as it was according to
its SafeLevel, removes every PulseEnd, keeps every LastTag, and answers OK; the scheduler state becomes FROZEN from
RUNNING and stays as it was in FROZEN and HALTED. No record changes. A FREEZE response makes the same drive in
RUNNING and HALTED and changes nothing in FROZEN. (section 6.1, section 7.6) -/
def Obligations.SafeDrivesEveryChannel : Prop :=
  ∀ s : State,
    let drive : State → State := fun t => { t with out := { t.out with
      chans := Vector.ofFn fun n => { s.out.chans[n] with
        level := (match s.out.table[n].safeLevel with
          | .inactive => false
          | .active => true
          | .hold => s.out.chans[n].level)
        pulseEnd := none } } }
    let frozen : State := { s with sched := { s.sched with state := .frozen } }
    (∀ h e, s.Takes h 0x32 e →
      (s.sched.state = .running → exec (.safe h) s = .next ((drive frozen).resulted h .ok).settle) ∧
      (s.sched.state ≠ .running → exec (.safe h) s = .next ((drive s).resulted h .ok).settle)) ∧
    (s.sched.state = .running → s.freezeResponse = drive frozen) ∧
    (s.sched.state = .halted → s.freezeResponse = drive s) ∧
    (s.sched.state = .frozen → s.freezeResponse = s)

/-- Taken on an unclaimed node, CLAIM from 0x00-0xFE sets the owner to its Src and answers OK; from 0xFF it answers
RANGE and changes nothing; from the owner it answers OK and changes nothing. A CLAIM from a non-owner of a claimed
node, and a broadcast CLAIM, do nothing, and the Classifier marks such a non-owner's frame REFUSED. A RESTART's
moment of effect keeps the owner; STATUS ends with the owner. (R177) -/
def Obligations.ClaimSetsTheOwner : Prop :=
  ∀ (s : State) (h : ReqHeader),
    (∀ e, s.Takes h 0x32 e →
      (s.owner = 0xFF → h.src ≠ 0xFF → exec (.claim h) s = .next ({ s with owner := h.src }.resulted h .ok).settle) ∧
      (s.owner = 0xFF → h.src = 0xFF → exec (.claim h) s = .next (s.resulted h .range).settle) ∧
      (s.owner ≠ 0xFF → s.owner = h.src → exec (.claim h) s = .next (s.resulted h .ok).settle)) ∧
    (h.dest = 0xFF → exec (.claim h) s = .next s) ∧
    (h.dest ≠ 0xFF → s.owner ≠ 0xFF → s.owner ≠ h.src → exec (.claim h) s = .next s) ∧
    (∀ e, e.mgmt = true → s.owner ≠ 0xFF → s.owner ≠ h.src →
      s.verdict e h.src 0x32 0 (parseRequest 0x32 [7]) = .marked 3) ∧
    s.restartEffect.owner = s.owner ∧ s.statusValue.getLast? = some s.owner

/-- Taken, RELEASE from the owner sets the owner to 0xFF and answers OK; on an unclaimed node it changes nothing and
answers OK. From then on every Src is authorised, by unicast and by broadcast. A RELEASE from a non-owner of a
claimed node, and a broadcast RELEASE, do nothing. (section 10.1) -/
def Obligations.ReleaseClearsTheOwner : Prop :=
  ∀ (s : State) (h : ReqHeader),
    (∀ e, s.Takes h 0x32 e →
      (s.owner = h.src → exec (.release h) s = .next ({ s with owner := 0xFF }.resulted h .ok).settle) ∧
      (s.owner = 0xFF → exec (.release h) s = .next (s.resulted h .ok).settle) ∧
      ∀ t, exec (.release h) s = .next t → ∀ src, t.authorised src = true) ∧
    (h.dest = 0xFF → exec (.release h) s = .next s) ∧
    (h.dest ≠ 0xFF → s.owner ≠ 0xFF → s.owner ≠ h.src → exec (.release h) s = .next s)

/-- With Dest 0xFF and a Src that is authorised, whatever the Address Table and the Reply Queue hold: START in HALTED
and RESUME in FROZEN, with no FREEZE-response flag latched, set RUNNING, and else do nothing; HALT in RUNNING or
FROZEN sets HALTED and frees every linked record, and in HALTED does nothing; SAFE drives every channel to its safe
level and takes RUNNING to FROZEN. Nothing else changes: no reply is queued. The Scheduler and the channels are as
after the same command taken by unicast. From a Src that is not authorised they do nothing. The order in which
HALT's records join the free list is the model's choice (log 14). (section 10.5, section 2.2, section 6.1, section
7.6) -/
def Obligations.BroadcastControlActs : Prop :=
  ∀ (s : State) (h : ReqHeader), s.resetHeld = false → h.dest = 0xFF →
    (s.owner = 0xFF ∨ s.owner = h.src →
      let running : State := { s with sched := { s.sched with state := .running } }
      let drive : State → State := fun t => { t with out := { t.out with
        chans := Vector.ofFn fun n => { s.out.chans[n] with
          level := (match s.out.table[n].safeLevel with
            | .inactive => false
            | .active => true
            | .hold => s.out.chans[n].level)
          pulseEnd := none } } }
      (s.sched.state = .halted → ¬ s.FreezeLatched → exec (.start h) s = .next running) ∧
      (s.sched.state ≠ .halted ∨ s.FreezeLatched → exec (.start h) s = .next s) ∧
      (s.sched.state = .frozen → ¬ s.FreezeLatched → exec (.resume h) s = .next running) ∧
      (s.sched.state ≠ .frozen ∨ s.FreezeLatched → exec (.resume h) s = .next s) ∧
      (s.sched.state ≠ .halted → exec (.halt h) s = .next
        { s with sched := { state := .halted, curSlot := s.sched.curSlot,
                            free := s.sched.free ++ s.sched.wheel.map ActionRecord.id, wheel := [] } }) ∧
      (s.sched.state = .halted → exec (.halt h) s = .next s) ∧
      (s.sched.state = .running →
        exec (.safe h) s = .next (drive { s with sched := { s.sched with state := .frozen } })) ∧
      (s.sched.state ≠ .running → exec (.safe h) s = .next (drive s)) ∧
      ∀ (g : ReqHeader) (e : Station) (t u : State), g.src = h.src → s.Takes g 0x32 e →
        (exec (.start h) s = .next t → exec (.start g) s = .next u → t.sched = u.sched ∧ t.out = u.out) ∧
        (exec (.halt h) s = .next t → exec (.halt g) s = .next u → t.sched = u.sched ∧ t.out = u.out) ∧
        (exec (.resume h) s = .next t → exec (.resume g) s = .next u → t.sched = u.sched ∧ t.out = u.out) ∧
        (exec (.safe h) s = .next t → exec (.safe g) s = .next u → t.sched = u.sched ∧ t.out = u.out)) ∧
    (s.owner ≠ 0xFF → s.owner ≠ h.src → exec (.start h) s = .next s ∧ exec (.halt h) s = .next s ∧
      exec (.resume h) s = .next s ∧ exec (.safe h) s = .next s)

/-- The row brings its frame into a free buffer, and with none free does nothing (log 7). Unicast and taken: the reply
OK goes to the head of the Reply Queue; with Hops of 1 or more the frame joins the Forward Queue marked TAKEN and
carries the restart mark, with Hops 0 the reply carries it. Broadcast from an authorised Src: with Hops of 1 or more
the forwarded frame carries the mark, with Hops 0 the item being sent, or with none being sent RESTART takes effect
at once. A mark already held lets no second one be set. Broadcast from a Src that is not authorised: the frame is
carried, with Hops of 1 or more, and nothing is marked. In every case the row is the classification of that frame,
Mark CLEAR, in its buffer. (section 2.4, section 10.6, section 2.2) -/
def Obligations.RestartIsMarked : Prop :=
  ∀ (s : State) (h : ReqHeader) (hops : Octet), s.resetHeld = false →
    (s.rx.freeBuffers = 0 → exec (.restart h hops) s = .next s) ∧
    (0 < s.rx.freeBuffers →
    let sent : Octet → Bool → Forwarded := fun mark restart =>
      { frame := { dest := h.dest, src := h.src, kind := 0x32, seq := h.seq, hops := hops - 1, mark := mark, payload := [6] }
        arrival := s.lineTime, arrivalOffset := s.time.offset, restartMark := restart }
    let reply : Bool → ReplyDesc := fun restart =>
      { kind := .reply, dest := h.src, src := h.dest, seq := h.seq, body := .fixed [0], restartMark := restart,
        restartReply := true }
    let held : Prop := s.marks ≠ 0
    let fewer : Receiver := { s.rx with freeBuffers := s.rx.freeBuffers - 1 }
    exec (.restart h hops) s = .next ({ s with rx := fewer }.classify
      { frame := { dest := h.dest, src := h.src, kind := 0x32, seq := h.seq, hops := hops, mark := 0, payload := [6] }
        arrival := s.lineTime, arrivalOffset := s.time.offset }).settle ∧
    (h.dest = 0xFF → s.owner ≠ 0xFF → s.owner ≠ h.src →
      (hops ≠ 0 → exec (.restart h hops) s = .next
        { s with rx := fewer, port := { s.port with forward := s.port.forward ++ [sent 0 false] } }.settle) ∧
      (hops = 0 → exec (.restart h hops) s = .next s.settle)) ∧
    (∀ e, s.Takes h 0x32 e → ∀ restart : Bool, (restart = true ↔ ¬ held) →
      (hops ≠ 0 → exec (.restart h hops) s = .next
        { s with rx := fewer, port := { s.port with
            replies := reply false :: s.port.replies, forward := s.port.forward ++ [sent 1 restart] } }.settle) ∧
      (hops = 0 → exec (.restart h hops) s = .next
        { s with port := { s.port with replies := reply restart :: s.port.replies } }.settle)) ∧
    (h.dest = 0xFF → (s.owner = 0xFF ∨ s.owner = h.src) → ∀ restart : Bool, (restart = true ↔ ¬ held) →
      (hops ≠ 0 → exec (.restart h hops) s = .next
        { s with rx := fewer, port := { s.port with forward := s.port.forward ++ [sent 0 restart] } }.settle) ∧
      (hops = 0 → held → exec (.restart h hops) s = .next s.settle) ∧
      (hops = 0 → ¬ held → ∀ octets doneAt, s.port.tx = .sendingReply octets doneAt false →
        exec (.restart h hops) s =
          .next { s with port := { s.port with tx := .sendingReply octets doneAt true } }.settle) ∧
      (hops = 0 → ¬ held → ∀ octets doneAt f rest, s.port.tx = .sendingForward octets doneAt →
        s.port.forward = f :: rest → exec (.restart h hops) s =
          .next { s with port := { s.port with forward := { f with restartMark := true } :: rest } }.settle) ∧
      (hops = 0 → ¬ held → (s.port.tx = .idle ∨ ∃ ends, s.port.tx = .gap ends) →
        exec (.restart h hops) s = .next s.restartEffect.settle)))

/-- When the marked item has been sent, FE_SENT and RESTART_EFFECT alike answer the state written out here in full:
queues, ring, wheel, faults and notices emptied, receiver SETTLING, transmitter in GAP at the staged rate, Time Base
UNSYNCED with its count and offset, scheduler HALTED with its slot number, every channel at its safe level; tables,
CONFIG, owner, filters, LastTags, line time and slot number kept. Where a break stands at that moment the receiver
still waits for its end (log 17). That FE_SENT and RESTART_EFFECT answer alike (log 3) and that the freed records
join the free list in link order (log 14) are the model's. (section 10.6, section 3.7, section 8.5) -/
def Obligations.RestartTakesEffect : Prop :=
  ∀ (s : State) (octets : List Octet) (doneAt : Ticks), s.resetHeld = false → s.At doneAt →
    (s.port.tx = .sendingReply octets doneAt true ∨
      (s.port.tx = .sendingForward octets doneAt ∧ ∃ f rest, s.port.forward = f :: rest ∧ f.restartMark = true)) →
    let restarted : State :=
      { s with
        rate := s.cfg.lineRate
        rx := { state := .settling s.time.localCount, badCount := 0, lastDiscard := .none, inBreak := s.rx.inBreak,
                freeBuffers := 16 }
        port := { forward := [], replies := [], credit := 0, noticeSeq := 0,
                  tx := .gap (s.time.localCount + BitVec.ofNat 48 (2 * s.cfg.lineRate.charTicks)) }
        time := { localCount := s.time.localCount, offset := s.time.offset, sync := .unsynced, outliers := 0,
                  reference := none, syncTimer := none, holdoverTimer := none }
        sched := { state := .halted, curSlot := s.sched.curSlot,
                   free := s.sched.free ++ s.sched.wheel.map ActionRecord.id, wheel := [] }
        out := { table := s.out.table
                 chans := Vector.ofFn fun n =>
                   { level := (match s.out.table[n].safeLevel with
                       | .inactive => false
                       | .active => true
                       | .hold => s.out.chans[n].level)
                     pulseEnd := none, lastTag := s.out.chans[n].lastTag } }
        cap := { s.cap with ring := [], nextSeq := 0, gapPending := false, highest := none }
        faults := { latched := 0, active := 0 }
        notices := { queue := [], outstanding := false } }
    exec .feSent s = .next restarted ∧ exec .restartEffect s = .next restarted

/-- For each SlotExp k: the slot number of line time t is floor(t / 2^k) modulo 2^32; the distance from a to b is
congruent to b - a modulo 2^32 and lies in -2^31 to 2^31 - 1; a full turn of line time is a whole multiple of 2^32
slots for k in 8-16, so the last slot before the wrap has number 2^32 - 1 and the first after it 0; slot list i
holds the records whose Due is i modulo 256; the Time Base's current slot number is that of line time now; a CONFIG
write of SlotExp is taken for 8-16 only; SlotExp is 12 after power-on and pin reset. (R47) -/
def Obligations.SlotNumbersCountSlots : Prop :=
  (∀ (k : Nat) (t : Ticks), (slotOf k t).toNat = t.toNat / 2 ^ k % 2 ^ 32) ∧
  (∀ a b : SlotNo, -2 ^ 31 ≤ slotDistance a b ∧ slotDistance a b ≤ 2 ^ 31 - 1 ∧
    (slotDistance a b - ((b.toNat : Int) - a.toNat)) % 2 ^ 32 = 0) ∧
  (∀ k : Nat, 8 ≤ k → k ≤ 16 → 2 ^ (48 - k) % 2 ^ 32 = 0 ∧ slotOf k (BitVec.allOnes 48) = BitVec.allOnes 32 ∧
    slotOf k 0 = 0 ∧ slotOf k (BitVec.allOnes 48 + 1) = slotOf k (BitVec.allOnes 48) + 1) ∧
  (∀ (s : State) (i : BitVec 8), s.slotList i = s.sched.wheel.filter fun r => r.due.toNat % 256 = i.toNat) ∧
  (∀ s : State, s.slotNow = slotOf s.cfg.slotExp (s.time.localCount + s.time.offset)) ∧
  (∀ (c : ConfigFields) (v : Nat), (∃ d, c.put 0 v = some d) ↔ 8 ≤ v ∧ v ≤ 16) ∧
  ∀ straps inputs, (State.released straps inputs).cfg.slotExp = 12

/-- TICK adds one to the local count modulo 2^48, and with it to line time; the first tick after release takes each
line's filtered level from its pin with no candidate. CAPTURE_INPUT_CHANGE sets the pin; a level that differs from
the filtered level begins a candidate when none is held, with start now and duration FilterTime times 4 ticks; the
filtered level abandons one held; otherwise the filter stays. Before the first tick only the pin moves (log 1). That
a tick takes nothing that falls due (log 5) and samples no input after the first (log 26) is the model's choice:
each has a row of its own. (section 3.1, section 8.1) -/
def Obligations.TickAndInputsAreSampled : Prop :=
  ∀ s : State, s.resetHeld = false →
    let later : TimeBase := { s.time with localCount := s.time.localCount + 1 }
    (s.cap.sampled = true → exec .tick s = .next { s with time := later }) ∧
    (s.cap.sampled = false → exec .tick s = .next { s with time := later, cap := { s.cap with
      sampled := true, lines := Vector.ofFn fun n => { filtered := s.cap.pins.getLsbD n.val, candidate := none } } }) ∧
    (∀ t, exec .tick s = .next t → t.lineTime = s.lineTime + 1) ∧
    ∀ (n : Fin 8) (level : Bool), ∃ pins : BitVec 8,
      (∀ m : Fin 8, pins.getLsbD m.val = if m = n then level else s.cap.pins.getLsbD m.val) ∧
      (s.cap.sampled = false →
        exec (.captureInputChange n level) s = .next { s with cap := { s.cap with pins := pins } }) ∧
      (s.cap.sampled = true →
        let f := s.cap.lines[n]
        let seen : LineFilter :=
          if level = f.filtered then { f with candidate := none }
          else if f.candidate.isSome then f
          else { f with candidate := some { level := level, start := s.time.localCount,
                                            duration := BitVec.ofNat 48 (4 * s.cap.filterTime.toNat) } }
        exec (.captureInputChange n level) s =
          .next { s with cap := { s.cap with pins := pins, lines := s.cap.lines.set n seen } })

/-- A record's action handed to its channel changes that channel only: SET makes it ACTIVE, CLEAR INACTIVE, TOGGLE
inverts it, each removing PulseEnd; PULSE makes it ACTIVE with PulseEnd the local count plus Width modulo 2^48; the
Tag becomes LastTag. PULSE_EXPIRY, when the local count has reached PulseEnd, makes the channel INACTIVE and removes
PulseEnd, LastTag unchanged; before it, or with no pulse, it does nothing (log 4). (section 7.3, section 7.4) -/
def Obligations.ActionsAndPulsesOnChannels : Prop :=
  ∀ s : State,
    (∀ r : ActionRecord,
      let c : ChannelState :=
        { level := (match r.action with
            | .set => true
            | .clear => false
            | .toggle => !s.out.chans[r.channel].level
            | .pulse _ => true)
          pulseEnd := (match r.action with
            | .pulse w => some (s.time.localCount + BitVec.ofNat 48 w.toNat)
            | .set => none
            | .clear => none
            | .toggle => none)
          lastTag := some r.tag }
      s.applyAction r = { s with out := { s.out with chans := s.out.chans.set r.channel c } }) ∧
    ∀ n : Fin 16, s.resetHeld = false →
      (∀ ends, s.out.chans[n].pulseEnd = some ends → s.At ends → exec (.pulseExpiry n) s = .next
        { s with out := { s.out with
          chans := s.out.chans.set n { s.out.chans[n] with level := false, pulseEnd := none } } }) ∧
      (∀ ends, s.out.chans[n].pulseEnd = some ends → ¬ s.At ends → exec (.pulseExpiry n) s = .next s) ∧
      (s.out.chans[n].pulseEnd = none → exec (.pulseExpiry n) s = .next s)

/-- A SYNC from TimeSource with 11 octets is measured: M is MasterTime plus the signed Correction plus LinkDelay, e is M
less the arrival. The whole state after it follows the table of section 3.4 in each sync state, for small and large
errors: a step moves the offset by e, sets the reference to M and the outlier count to 0 and restarts the
SyncTimeout timer; an outlier in LOCKED only counts and restarts the timer. The SYNC_LOST condition ends in
UNSYNCED; SYNC_JUMP is raised on leaving LOCKED or HOLDOVER by a large error. Then, when line time's slot differs
from the current one, one time step event to it is taken, and none when e is 0: a boundary already reached is still
to come (log 22). Any other SYNC changes nothing. (section 3.3, section 3.4, section 3.5, section 3.6, section 3.2) -/
def Obligations.SyncStateMachine : Prop :=
  ∀ (s : State) (src : Octet) (arrival : Ticks), s.resetHeld = false →
    (∀ payload : List Octet, src ≠ s.cfg.timeSource ∨ payload.length ≠ 11 → exec (.sync src arrival payload) s = .next s) ∧
    ∀ (master : BitVec 48) (correction : BitVec 32) (syncSeq : Octet), src = s.cfg.timeSource →
      let m : Ticks := master + correction.signExtend 48 + BitVec.ofNat 48 s.cfg.linkDelay
      let e : Ticks := m - arrival
      let small := -(s.cfg.stepLimit : Int) ≤ e.toInt ∧ e.toInt ≤ s.cfg.stepLimit
      let timer : Option Ticks := some (s.time.localCount + BitVec.ofNat 48 (4000 * s.cfg.syncTimeout))
      let stepped : SyncState → State := fun st => { s with time :=
        { localCount := s.time.localCount, offset := s.time.offset + e, sync := st, outliers := 0,
          reference := some m, syncTimer := timer, holdoverTimer := none } }
      let now : Ticks := s.time.localCount + (s.time.offset + e)
      let slot : SlotNo := slotOf s.cfg.slotExp now
      let outlier := s.time.sync = .locked ∧ ¬ small ∧ s.time.outliers < 2
      let jumped : State := (stepped .acquiring).raise .syncJump now
      let takes : State → Prop := fun u =>
        exec (.sync src arrival (octetsOf 6 master ++ octetsOf 4 correction ++ [syncSeq])) s = .next u.settle
      let steps : State → Prop := fun u =>
        (e = 0 ∨ slot = s.sched.curSlot → takes u) ∧
        (e ≠ 0 → slot ≠ s.sched.curSlot → takes (u.timeStep slot now) ∧
          (u.timeStep slot now).settle.sched.curSlot = slot ∧ (u.timeStep slot now).settle.time = u.time)
      (s.time.sync = .unsynced → steps { stepped .acquiring with
        faults := { s.faults with active := s.faults.active &&& 0xF7 } }) ∧
      (s.time.sync ≠ .unsynced → small → steps (stepped .locked)) ∧
      (s.time.sync = .acquiring → ¬ small → steps (stepped .acquiring)) ∧
      (outlier → takes { s with time := { s.time with outliers := s.time.outliers + 1, syncTimer := timer } }) ∧
      (s.time.sync = .locked → ¬ small → 2 ≤ s.time.outliers → steps jumped) ∧
      (s.time.sync = .holdover → ¬ small → steps jumped) ∧
      jumped.time = (stepped .acquiring).time ∧ jumped.sched.curSlot = s.sched.curSlot ∧
      jumped.faults.latched.getLsbD 2 = true

/-- When the local count has reached the SyncTimeout instant, ACQUIRING becomes UNSYNCED with no reference and no timer,
and LOCKED becomes HOLDOVER with the outlier count 0, the reference kept and the holdover timer started for
HoldoverLimit milliseconds. When it has reached the holdover instant in HOLDOVER, the state becomes UNSYNCED with no
reference and no timer, the SYNC_LOST condition becomes active and SYNC_LOST is raised. Before its instant, or
stopped, a timer's row does nothing (log 4). (section 3.4, section 3.6) -/
def Obligations.SyncTimersExpire : Prop :=
  ∀ s : State, s.resetHeld = false →
    let lost : TimeBase :=
      { s.time with sync := .unsynced, reference := none, syncTimer := none, holdoverTimer := none }
    (∀ due, s.time.syncTimer = some due → s.At due →
      (s.time.sync = .acquiring → exec .syncTimeoutExpiry s = .next { s with time := lost }) ∧
      (s.time.sync = .locked → exec .syncTimeoutExpiry s = .next { s with time := { s.time with
        sync := .holdover, outliers := 0, syncTimer := none,
        holdoverTimer := some (s.time.localCount + BitVec.ofNat 48 (4000 * s.cfg.holdoverLimit)) } })) ∧
    ((s.time.syncTimer = none ∨ ∃ due, s.time.syncTimer = some due ∧ ¬ s.At due) →
      exec .syncTimeoutExpiry s = .next s) ∧
    (∀ due, s.time.holdoverTimer = some due → s.At due → s.time.sync = .holdover → exec .holdoverExpiry s = .next
      ({ s with time := lost, faults := { s.faults with active := s.faults.active ||| 0x08 } }.raise .syncLost
        s.lineTime).settle) ∧
    ((s.time.holdoverTimer = none ∨ ∃ due, s.time.holdoverTimer = some due ∧ ¬ s.At due) →
      exec .holdoverExpiry s = .next s)

/-- A notice offered with room joins the tail with its mark clear; offered to 32 it is dropped, the newest notice is
marked and NOTICE_OVERFLOW latches if clear, with its Response. A raise of a latched kind changes nothing; of a
clear one it latches, offers a FAULT notice while FaultNotices is on, then applies the kind's Response. A completion
notice is offered when Report is set, or for an abnormal outcome while ReportAbnormal is on. LINE_ERRORS is raised
when its condition becomes active and only its active flag is cleared when it ends. (section 9.2, section 9.5,
section 6.3, section 1.6, section 9.1) -/
def Obligations.OffersAndRaises : Prop :=
  ∀ s : State,
    let responds : State → FaultKind → State := fun t k => if s.cfg.responses[k.code] = .freeze then t.freezeResponse else t
    let latching : State → FaultKind → State := fun t k =>
      { t with faults := { t.faults with latched := t.faults.latched ||| (1 <<< k.code.val) } }
    (∀ b, s.notices.queue.length < 32 → s.offerNotice b =
      { s with notices := { s.notices with queue := s.notices.queue ++ [{ overflow := false, body := b }] } }) ∧
    (∀ b q n, s.notices.queue = q ++ [n] → 32 ≤ s.notices.queue.length →
      let marked : State := { s with notices := { s.notices with queue := q ++ [{ n with overflow := true }] } }
      (s.faults.latched.getLsbD 7 = true → s.offerNotice b = marked) ∧
      (s.faults.latched.getLsbD 7 = false → s.offerNotice b = responds (latching marked .noticeOverflow) .noticeOverflow)) ∧
    (∀ k time,
      (s.faults.latched.getLsbD k.code.val = true → s.raise k time = s) ∧
      (s.faults.latched.getLsbD k.code.val = false →
        (s.cfg.faultNotices = true → s.raise k time = responds ((latching s k).offerNotice (.fault k time)) k) ∧
        (s.cfg.faultNotices = false → s.raise k time = responds (latching s k) k))) ∧
    (∀ r o time,
      let abnormal := o ∈ [ActionOutcome.late, .suppressed, .disabled, .expired, .dropped]
      (r.report = true ∨ (abnormal ∧ s.cfg.reportAbnormal = true) →
        s.offerCompletion r o time = s.offerNotice (.completion r.tag r.channel o r.origin r.fired time)) ∧
      (¬ (r.report = true ∨ (abnormal ∧ s.cfg.reportAbnormal = true)) → s.offerCompletion r o time = s)) ∧
    (s.cfg.lineErrorLimit ≤ s.rx.badCount → s.faults.active.getLsbD 0 = false → s.evalLineErrors =
      { s with faults := { s.faults with active := s.faults.active ||| 0x01 } }.raise .lineErrors s.lineTime) ∧
    (s.cfg.lineErrorLimit ≤ s.rx.badCount → s.faults.active.getLsbD 0 = true → s.evalLineErrors = s) ∧
    (s.rx.badCount < s.cfg.lineErrorLimit →
      s.evalLineErrors = { s with faults := { s.faults with active := s.faults.active &&& 0xFE } })

/-- When line time lies in a slot beyond the current one, the current slot number n becomes one more; in HALTED, or with
no record due at n, that is all. Otherwise the records due at n when the walk begins take their turns in link order,
each on the state that the one before it left; so does any other expiry of a slot. At its turn a record is released:
DONE with its action applied in RUNNING on an enabled channel, DISABLED on a disabled one, SUPPRESSED in FROZEN;
Fired and Remaining are counted; spent, it joins the free list's tail; else it moves to the tail of the list of Due
plus Period, or with 32 there is freed as DROPPED and REPEAT_DROPPED is raised. The notices come before the raise
and carry the first tick of slot n. What one turn does is said for any state, and written out for SLOT_BOUNDARY
where one record is due. Otherwise nothing happens (log 4). (section 6.2, section 6.3, section 3.2, section 4.3,
section 7.5) -/
def Obligations.SlotBoundaryReleases : Prop :=
  (∀ (t : State) (time : Ticks) (before after : List ActionRecord) (r : ActionRecord),
    t.sched.wheel = before ++ r :: after → (∀ x ∈ before, x.id ≠ r.id) →
    let o : ActionOutcome := if t.sched.state ≠ .running then .suppressed
      else if t.out.table[r.channel].enabled = true then .done else .disabled
    let driven : State := if o = .done then t.applyAction r else t
    let counted : ActionRecord := { r with
      fired := if o = .suppressed then r.fired else min 65535 (r.fired + 1)
      remaining := (match r.remaining with
        | .times m => .times (m - 1)
        | .unlimited => .unlimited) }
    let freed : State := { driven with sched := { t.sched with
      free := t.sched.free ++ [r.id], wheel := before ++ after } }
    let becomes : State → Prop := fun u => State.releaseTurn time t r.id = u
    (r.remaining = .times 1 → becomes (freed.offerCompletion counted o time)) ∧
    ∀ p, r.remaining ≠ .times 1 → r.remaining ≠ .times 0 → r.period = some p →
      let next := r.due + BitVec.ofNat 32 p.toNat
      let others := (before ++ after).filter fun x => x.due.toNat % 256 = next.toNat % 256
      (others.length < 32 → becomes
        ({ driven with sched := { t.sched with wheel := before ++ after ++ [{ counted with due := next }] }
          }.offerCompletion counted o time)) ∧
      (32 ≤ others.length → becomes
        (((freed.offerCompletion counted o time).offerCompletion counted .dropped time).raise .repeatDropped time))) ∧
  (∀ (s : State) (n : SlotNo) (time : Ticks),
    let entered : State := { s with sched := { s.sched with curSlot := n } }
    (s.sched.state = .halted → s.slotExpiry n time = entered) ∧
    (s.sched.state ≠ .halted → s.slotExpiry n time =
      ((s.sched.wheel.filter fun r => r.due = n).map ActionRecord.id).foldl (State.releaseTurn time) entered)) ∧
  ∀ s : State, s.resetHeld = false →
    let n := s.sched.curSlot + 1
    let tick := firstTickOf s.cfg.slotExp s.lineTime n
    let ahead := (slotOf s.cfg.slotExp s.lineTime - s.sched.curSlot).toInt
    (ahead < 1 → exec .slotBoundary s = .next s) ∧
    (1 ≤ ahead →
      (8 ≤ s.cfg.slotExp → s.cfg.slotExp ≤ 16 →
        slotOf s.cfg.slotExp tick = n ∧ tick.toNat % 2 ^ s.cfg.slotExp = 0) ∧
      (s.sched.state = .halted ∨ (∀ r ∈ s.sched.wheel, r.due ≠ n) →
        exec .slotBoundary s = .next { s with sched := { s.sched with curSlot := n } }.settle) ∧
      (s.sched.state ≠ .halted → exec .slotBoundary s = .next
        (((s.sched.wheel.filter fun r => r.due = n).map ActionRecord.id).foldl (State.releaseTurn tick)
          { s with sched := { s.sched with curSlot := n } }).settle) ∧
      ∀ before r after, s.sched.state ≠ .halted → s.sched.wheel = before ++ r :: after → r.due = n →
        (∀ x ∈ before ++ after, x.due ≠ n ∧ x.id ≠ r.id) →
        let o : ActionOutcome := if s.sched.state = .frozen then .suppressed
          else if s.out.table[r.channel].enabled = true then .done else .disabled
        let driven : State := if o = .done then s.applyAction r else s
        let counted : ActionRecord := { r with
          fired := if o = .suppressed then r.fired else min 65535 (r.fired + 1)
          remaining := (match r.remaining with
            | .times m => .times (m - 1)
            | .unlimited => .unlimited) }
        let freed : State := { driven with sched := { s.sched with
          curSlot := n, free := s.sched.free ++ [r.id], wheel := before ++ after } }
        (r.remaining = .times 1 → exec .slotBoundary s = .next (freed.offerCompletion counted o tick).settle) ∧
        (∀ p, r.remaining ≠ .times 1 → r.remaining ≠ .times 0 → r.period = some p →
          let next := r.due + BitVec.ofNat 32 p.toNat
          let others := (before ++ after).filter fun x => x.due.toNat % 256 = next.toNat % 256
          (others.length < 32 → exec .slotBoundary s = .next
            ({ driven with sched := { s.sched with
                curSlot := n, wheel := before ++ after ++ [{ counted with due := next }] }
              }.offerCompletion counted o tick).settle) ∧
          (32 ≤ others.length → exec .slotBoundary s = .next
            (((freed.offerCompletion counted o tick).offerCompletion counted .dropped tick).raise .repeatDropped
              tick).settle)))

/-- With a whole pool, sound records, not HALTED: after a SLOT_BOUNDARY the new slot is no linked record's Due; after a
forward time step from a to b no Due lies from a + 1 to b; a step not forward only changes the slot number. A
forward step hands on the passed records one at a time, by increasing Due and then in link order, and then slot b
expires. A passed record is EXPIRED beyond CatchUpLimit, else SUPPRESSED outside RUNNING, DISABLED on a disabled
channel, or LATE with its action applied. With its last firing spent it is freed; else with m, the whole part of (b
- Due) / Period plus one: skipped firings that spend it free it as EXPIRED, a second outcome unless it is EXPIRED
already; else it is relinked 1 to Period slots beyond b with Remaining m less; or to a full list freed as DROPPED,
REPEAT_DROPPED raised last. ACTIONS_EXPIRED is raised once, right after the notice of the step's first EXPIRED
(where that record is also DROPPED, before the notice of DROPPED: log 13). (section 4.5, section 6.2, section 6.4,
section 6.3, section 4.3) -/
def Obligations.NothingDueIsLeftBehind : Prop :=
  (∀ s : State, s.PoolWhole → s.RecordsSound → s.sched.state ≠ .halted →
    (∀ t, s.resetHeld = false → 1 ≤ (slotOf s.cfg.slotExp s.lineTime - s.sched.curSlot).toInt →
      exec .slotBoundary s = .next t →
      t.sched.curSlot = s.sched.curSlot + 1 ∧ ∀ r ∈ t.sched.wheel, r.due ≠ t.sched.curSlot) ∧
    ∀ (b : SlotNo) (time : Ticks), let d := (b - s.sched.curSlot).toInt
      (1 ≤ d → (s.timeStep b time).sched.curSlot = b ∧ ∀ r ∈ (s.timeStep b time).sched.wheel,
        ¬ (1 ≤ (r.due - s.sched.curSlot).toNat ∧ ((r.due - s.sched.curSlot).toNat : Int) ≤ d)) ∧
      (d < 1 → s.timeStep b time = { s with sched := { s.sched with curSlot := b } })) ∧
  (∀ (s : State) (b : SlotNo) (time : Ticks) (d : Nat), s.sched.state ≠ .halted →
    (b - s.sched.curSlot).toInt = d → 1 ≤ d →
    let passed := (List.range (d - 1)).flatMap fun k =>
      s.sched.wheel.filter fun r => (r.due - s.sched.curSlot).toNat = k + 1
    let handled := (passed.map ActionRecord.id).foldl (passTurn (decide (d - 1 ≤ s.cfg.catchUpLimit)) b time)
      ({ s with sched := { s.sched with curSlot := b } }, false)
    s.timeStep b time = handled.1.slotExpiry b time) ∧
  ∀ (t : State) (b : SlotNo) (time : Ticks) (catchUp raised : Bool) (before after : List ActionRecord) (r : ActionRecord),
    t.sched.wheel = before ++ r :: after → (∀ x ∈ before, x.id ≠ r.id) →
    let o : ActionOutcome := if catchUp = false then .expired else if t.sched.state ≠ .running then .suppressed
      else if t.out.table[r.channel].enabled = true then .late else .disabled
    let driven : State := if o = .late then t.applyAction r else t
    let counted : ActionRecord := { r with
      fired := if o = .late ∨ o = .disabled then min 65535 (r.fired + 1) else r.fired
      remaining := (match r.remaining with
        | .times n => .times (n - 1)
        | .unlimited => .unlimited) }
    let freed : State := { driven with sched := { t.sched with
      free := t.sched.free ++ [r.id], wheel := before ++ after } }
    let tells : State × Bool → ActionOutcome → State × Bool := fun p outcome =>
      let noticed := p.1.offerCompletion counted outcome time
      if outcome = .expired ∧ p.2 = false then (noticed.raise .actionsExpired time, true) else (noticed, p.2)
    let becomes : State × Bool → Prop := fun p => passTurn catchUp b time (t, raised) r.id = p
    (r.remaining = .times 1 → becomes (tells (freed, raised) o)) ∧
    ∀ p, r.period = some p → p ≠ 0 → r.remaining ≠ .times 0 → r.remaining ≠ .times 1 →
      let m := (b - r.due).toNat / p.toNat + 1
      let next := r.due + BitVec.ofNat 32 (m * p.toNat)
      let others := (before ++ after).filter fun x => x.due.toNat % 256 = next.toNat % 256
      let spends := ∃ n, r.remaining = .times n ∧ n - 1 ≤ m - 1
      let kept : ActionRecord := { counted with
        due := next
        remaining := (match r.remaining with
          | .times n => .times (n - m)
          | .unlimited => .unlimited) }
      let relinked : State := { driven with sched := { t.sched with wheel := before ++ after ++ [kept] } }
      (1 ≤ (next - b).toNat ∧ (next - b).toNat ≤ p.toNat) ∧
      (spends → o = .expired → becomes (tells (freed, raised) o)) ∧
      (spends → o ≠ .expired → becomes (tells (tells (freed, raised) o) .expired)) ∧
      (¬ spends → others.length < 32 → becomes (tells (relinked, raised) o)) ∧
      (¬ spends → 32 ≤ others.length →
        let dropped := tells (tells (freed, raised) o) .dropped
        becomes (dropped.1.raise .repeatDropped time, dropped.2))

/-- When the local count has reached a candidate's start plus duration, the filtered level becomes its level. If the
line is enabled for the direction, a record with the next Seq, line time less the duration, the sync state and the
gap-pending flag joins a ring of fewer than 64 and clears the flag; a full ring loses it and sets the flag. Then the
trigger entries 0 to 7 take their turns, each on the state that the one before it left: an entry that does not
match, or outside RUNNING, changes nothing; a matching one in RUNNING has its record linked at current slot plus
Delay and is disarmed if OneShot, or with no free record or a list of 32 raises TRIGGER_MISSED, and a FREEZE of that
raise stops the entries after it. No matching entry, and a single one, are written out. With no candidate, or before
its time, nothing happens (log 4). (section 8.2, section 8.3, section 8.7) -/
def Obligations.QualifiedEdgeStoresAndTriggers : Prop :=
  (∀ (t : State) (n k : Fin 8) (edge : Edge),
    let e := t.cap.triggers[k]
    let due := t.sched.curSlot + BitVec.ofNat 32 e.delay.toNat
    let full := 32 ≤ (t.sched.wheel.filter fun r => r.due.toNat % 256 = due.toNat % 256).length
    let acts := t.sched.state = .running ∧ e.enabled = true ∧ e.line = n ∧
      (e.edge = .both ∨ (e.edge = .rising ∧ edge = .rising) ∨ (e.edge = .falling ∧ edge = .falling))
    (¬ acts → State.triggerTurn n edge t k = t) ∧
    (acts → t.sched.free = [] ∨ full → State.triggerTurn n edge t k = t.raise .triggerMissed t.lineTime) ∧
    ∀ id rest, acts → t.sched.free = id :: rest → ¬ full →
      let linked : ActionRecord :=
        { id := id, due := due, channel := e.channel
          action := (match e.action with
            | .set => .set
            | .clear => .clear
            | .toggle => .toggle
            | .pulse => .pulse e.width)
          tag := BitVec.ofNat 16 k.val, origin := .trigger k, period := none, remaining := .times 1, fired := 0
          report := e.report }
      State.triggerTurn n edge t k = { t with
        cap := { t.cap with
          triggers := if e.oneShot then t.cap.triggers.set k { e with enabled := false } else t.cap.triggers }
        sched := { t.sched with free := rest, wheel := t.sched.wheel ++ [linked] } }) ∧
  ∀ (s : State) (n : Fin 8), s.resetHeld = false →
    ((s.cap.lines[n].candidate = none ∨
        ∃ c, s.cap.lines[n].candidate = some c ∧ ¬ s.At (c.start + c.duration)) →
      exec (.qualifiedEdge n) s = .next s) ∧
    ∀ c, s.cap.lines[n].candidate = some c → s.At (c.start + c.duration) →
      let takes : EdgeSelect → Prop := fun e => e = .both ∨ (e = .rising ∧ c.level = true) ∨ (e = .falling ∧ c.level = false)
      let lines := s.cap.lines.set n { filtered := c.level, candidate := none }
      let stores := s.cap.enable.getLsbD n.val = true ∧ takes s.cap.edges[n]
      let record : CaptureRecord :=
        { seq := s.cap.nextSeq, line := n, edge := if c.level then .rising else .falling
          time := s.lineTime - c.duration, sync := s.time.sync, gap := s.cap.gapPending }
      let matching : Fin 8 → Prop := fun k =>
        s.cap.triggers[k].enabled = true ∧ s.cap.triggers[k].line = n ∧ takes s.cap.triggers[k].edge
      ∀ cap : CaptureUnit,
        ((stores ∧ s.cap.ring.length < 64 ∧ cap = { s.cap with
            lines := lines, ring := s.cap.ring ++ [record], nextSeq := s.cap.nextSeq + 1, gapPending := false }) ∨
         (stores ∧ 64 ≤ s.cap.ring.length ∧ cap = { s.cap with lines := lines, gapPending := true }) ∨
         (¬ stores ∧ cap = { s.cap with lines := lines })) →
        exec (.qualifiedEdge n) s = .next
          (([0, 1, 2, 3, 4, 5, 6, 7] : List (Fin 8)).foldl
            (State.triggerTurn n (if c.level then .rising else .falling)) { s with cap := cap }).settle ∧
        (s.sched.state ≠ .running ∨ (∀ k, ¬ matching k) →
          exec (.qualifiedEdge n) s = .next { s with cap := cap }.settle) ∧
        ∀ k, s.sched.state = .running → matching k → (∀ m, m ≠ k → ¬ matching m) →
          let e := s.cap.triggers[k]
          let due := s.sched.curSlot + BitVec.ofNat 32 e.delay.toNat
          let full := 32 ≤ (s.sched.wheel.filter fun r => r.due.toNat % 256 = due.toNat % 256).length
          (∀ id rest, s.sched.free = id :: rest → ¬ full →
            let linked : ActionRecord :=
              { id := id, due := due, channel := e.channel
                action := (match e.action with
                  | .set => .set
                  | .clear => .clear
                  | .toggle => .toggle
                  | .pulse => .pulse e.width)
                tag := BitVec.ofNat 16 k.val, origin := .trigger k, period := none, remaining := .times 1, fired := 0
                report := e.report }
            let triggers := if e.oneShot then s.cap.triggers.set k { e with enabled := false } else s.cap.triggers
            exec (.qualifiedEdge n) s = .next
              { s with
                cap := { cap with triggers := triggers }
                sched := { s.sched with free := rest, wheel := s.sched.wheel ++ [linked] } }.settle) ∧
          (s.sched.free = [] ∨ full → exec (.qualifiedEdge n) s =
            .next ({ s with cap := cap }.raise .triggerMissed s.lineTime).settle)

/-- With notices waiting, none outstanding and two free entries, NOTICE_DESCRIPTOR_PLACE puts one NOTICE descriptor at
the tail and sets the outstanding flag; a busy transmitter takes nothing. Without the conditions it does nothing but
the IDLE start. An IDLE transmitter begins the only item there is; with a forwarded frame and a descriptor both
waiting it begins the head of the Reply Queue when that is a RESTART reply (log 10), and else either that head or
the oldest forwarded frame, with credit 0 (R40 leaves it free: log 9). The conditions are then examined once more.
The end of an event, which also places notices and starts an IDLE transmitter, changes only the Output Port, the
Notice Queue, HighestReported and the model's count of free choices. That it falls at the event's end is the model's
choice (log 8). (section 2.4, section 2.5, section 9.6, section 10.6) -/
def Obligations.NoticesArePlacedAndIdleStarts : Prop :=
  ∀ s : State,
    let waits := s.notices.queue ≠ [] ∧ s.notices.outstanding = false ∧ s.port.replies.length ≤ 6
    let desc : ReplyDesc :=
      { kind := .notice, dest := 0, src := 0, seq := 0, body := .notice, restartMark := false, restartReply := false }
    let placed : State := { s with
      notices := { s.notices with outstanding := true }
      port := { s.port with replies := s.port.replies ++ [desc] } }
    (s.resetHeld = false →
      (s.port.tx ≠ .idle →
        (waits → exec .noticeDescriptorPlace s = .next placed) ∧
        (¬ waits → exec .noticeDescriptorPlace s = .next s)) ∧
      (s.port.tx = .idle → s.port.forward = [] → s.port.replies = [] →
        (waits → exec .noticeDescriptorPlace s = .next placed.startReply.placeNotice) ∧
        (¬ waits → exec .noticeDescriptorPlace s = .next s)) ∧
      (s.port.tx = .idle → ¬ waits →
        (s.port.forward ≠ [] → s.port.replies = [] →
          exec .noticeDescriptorPlace s = .next (s.startForward 0).placeNotice) ∧
        (s.port.forward = [] → s.port.replies ≠ [] →
          exec .noticeDescriptorPlace s = .next s.startReply.placeNotice))) ∧
    (s.resetHeld = false → exec .noticeDescriptorPlace s = .next s.settle) ∧
    (waits → s.placeNotice = placed) ∧ (¬ waits → s.placeNotice = s) ∧
    (s.port.tx ≠ .idle → s.settle = s.placeNotice) ∧
    (s.port.tx = .idle → s.port.forward = [] → s.port.replies ≠ [] → s.settle = s.placeNotice.startReply.placeNotice) ∧
    (s.port.tx = .idle → s.port.forward ≠ [] → ∀ d rest, s.placeNotice.port.replies = d :: rest →
      let chosen : State := { s.placeNotice with choices := s.choices + 1 }
      (d.restartReply = true → s.settle = s.placeNotice.startReply.placeNotice) ∧
      (d.restartReply = false →
        s.settle = chosen.startReply.placeNotice ∨ s.settle = (chosen.startForward 0).placeNotice)) ∧
    s.settle.resetHeld = s.resetHeld ∧ s.settle.rate = s.rate ∧ s.settle.rx = s.rx ∧ s.settle.time = s.time ∧
    s.settle.sched = s.sched ∧ s.settle.out = s.out ∧ s.settle.faults = s.faults ∧ s.settle.addr = s.addr ∧
    s.settle.owner = s.owner ∧ s.settle.cfg = s.cfg ∧ s.settle.pending = s.pending ∧
    s.settle.cap = { s.cap with highest := s.settle.cap.highest }

/-- When the FE of an unmarked item has gone out, the transmitter enters GAP for 2 character-times, and a forwarded
frame leaves the queue and its buffer returns. When the gap has run out: both queues empty, IDLE; only one of them
waiting, its oldest item with credit 0; both waiting, the Reply Queue's head when it is a RESTART reply or the
credit is at or above ArbiterRatio, else the oldest forwarded frame with credit one more. Before its instant each
row does nothing (log 4). (section 2.5, section 2.3) -/
def Obligations.TransmitterCycle : Prop :=
  ∀ s : State, s.resetHeld = false →
    let gap : Transmitter := .gap (s.time.localCount + BitVec.ofNat 48 (2 * s.rate.charTicks))
    (∀ octets doneAt, s.At doneAt →
      (∀ f rest, s.port.tx = .sendingForward octets doneAt → s.port.forward = f :: rest → f.restartMark = false →
        exec .feSent s = .next { s with
          rx := { s.rx with freeBuffers := s.rx.freeBuffers + 1 }
          port := { s.port with forward := rest, tx := gap } }) ∧
      (s.port.tx = .sendingReply octets doneAt false →
        exec .feSent s = .next { s with port := { s.port with tx := gap } })) ∧
    (∀ octets doneAt mark, ¬ s.At doneAt →
      s.port.tx = .sendingForward octets doneAt ∨ s.port.tx = .sendingReply octets doneAt mark →
      exec .feSent s = .next s) ∧
    (∀ ends, s.port.tx = .gap ends → ¬ s.At ends → exec .gapEnd s = .next s) ∧
    ∀ ends, s.port.tx = .gap ends → s.At ends →
      (s.port.forward = [] → s.port.replies = [] →
        exec .gapEnd s = .next { s with port := { s.port with tx := .idle } }.settle) ∧
      (s.port.forward ≠ [] → s.port.replies = [] → exec .gapEnd s = .next (s.startForward 0).settle) ∧
      (s.port.forward = [] → s.port.replies ≠ [] → exec .gapEnd s = .next s.startReply.settle) ∧
      ∀ d rest, s.port.forward ≠ [] → s.port.replies = d :: rest →
        (d.restartReply = true ∨ s.cfg.arbiterRatio ≤ s.port.credit → exec .gapEnd s = .next s.startReply.settle) ∧
        (d.restartReply = false → s.port.credit < s.cfg.arbiterRatio →
          exec .gapEnd s = .next (s.startForward (s.port.credit + 1)).settle)

/-- A forwarded frame is sent as held with a fresh CRC, its buffer staying at the head; a broadcast SYNC of 11 octets
has its Correction increased by the residence, on the offset in force, and LinkDelay, modulo 2^32. A reply
descriptor leaves the queue, the credit becomes 0, and its frame has Hops ReplyHops and Mark CLEAR: a fixed body as
it is; a READ body of its code and, when OK, the object's value now; a REPORT body of k, the occupancy and the k
oldest records, with HighestReported brought forward and never back; a NOTICE of up to 12 notices, which leave, with
Src the Address of the lowest entry that holds one and Seq the notice sequence count, which goes up by one. Capture
records are 9 octets and notices 15, written out here; READ values are those of ReadAnswers. The instant at which
the frame will have been sent is log 19. (section 2.5, section 2.4, section 8.4, section 9.6, section 11.4, section
11.1, section 11.2) -/
def Obligations.TransmitStartFormsTheFrame : Prop :=
  ∀ s : State,
    let wire : List Octet → List Octet → List Octet := fun head body =>
      let o := head ++ [BitVec.ofNat 8 body.length] ++ body
      o ++ [(crcOf o >>> 8).setWidth 8, (crcOf o).setWidth 8]
    let done : List Octet → Ticks := fun o => s.time.localCount + BitVec.ofNat 48 ((o.length + 2) * s.rate.charTicks)
    let high : Nat → Nat → List Octet := fun n v => (List.range n).map fun i => BitVec.ofNat 8 (v / 256 ^ (n - 1 - i))
    let recordOctets : CaptureRecord → List Octet := fun r =>
      let sync := match r.sync with
        | .unsynced => 0
        | .acquiring => 1
        | .locked => 2
        | .holdover => 3
      high 2 r.seq.toNat ++
      [BitVec.ofNat 8 (r.line.val + (if r.edge = .falling then 8 else 0) + 16 * sync + (if r.gap then 64 else 0))] ++
      high 6 r.time.toNat
    let noticeOctets : Notice → List Octet := fun n =>
      let head : Nat := if n.overflow then 128 else 0
      match n.body with
      | .completion tag channel outcome origin fired time =>
        [BitVec.ofNat 8 head] ++ high 2 tag.toNat ++
        [BitVec.ofNat 8 channel.val,
         (match outcome with
          | .done => 1
          | .late => 2
          | .suppressed => 3
          | .disabled => 4
          | .expired => 5
          | .dropped => 6
          | .cancelled => 7)] ++
        (match origin with
         | .line requester => [0, requester]
         | .trigger k => [BitVec.ofNat 8 (128 + k.val), 0xFF]) ++
        high 2 fired ++ high 6 time.toNat
      | .fault kind time =>
        [BitVec.ofNat 8 (head + 1), 0, 0, 0,
         (match kind with
          | .lineErrors => 0
          | .rxOverrun => 1
          | .syncJump => 2
          | .syncLost => 3
          | .actionsExpired => 4
          | .repeatDropped => 5
          | .triggerMissed => 6
          | .noticeOverflow => 7),
         0, 0, 0, 0] ++ high 6 time.toNat
    (∀ f rest credit, s.port.forward = f :: rest →
      let sends : List Octet → Prop := fun payload =>
        let o := wire [f.frame.dest, f.frame.src, f.frame.kind, f.frame.seq, f.frame.hops, f.frame.mark] payload
        s.startForward credit = { s with port := { s.port with credit := credit, tx := .sendingForward o (done o) } }
      (¬ (f.frame.kind = 0x01 ∧ f.frame.dest = 0xFF ∧ f.frame.payload.length = 11) → sends f.frame.payload) ∧
      (∀ (master : BitVec 48) (correction : BitVec 32) (syncSeq : Octet), f.frame.kind = 0x01 → f.frame.dest = 0xFF →
        f.frame.payload = octetsOf 6 master ++ octetsOf 4 correction ++ [syncSeq] →
        let residence : Ticks := s.lineTime - (f.arrival + (s.time.offset - f.arrivalOffset))
        sends (octetsOf 6 master ++
          octetsOf 4 (correction + BitVec.ofNat 32 residence.toNat + BitVec.ofNat 32 s.cfg.linkDelay) ++ [syncSeq]))) ∧
    ∀ d rest, s.port.replies = d :: rest →
      let begun : State → List Octet → State := fun t o =>
        { t with port := { t.port with replies := rest, credit := 0, tx := .sendingReply o (done o) d.restartMark } }
      let own : Octet → List Octet → List Octet := fun kind body =>
        wire [d.dest, d.src, kind, d.seq, BitVec.ofNat 8 s.cfg.replyHops, 0] body
      (∀ octets, d.kind = .reply → d.body = .fixed octets → s.startReply = begun s (own 0x80 octets)) ∧
      (∀ o i, d.kind = .reply → d.body = .read .ok o i → s.startReply =
        begun s (own 0x80 (0 :: { s with port := { s.port with replies := rest } }.objectValue o i))) ∧
      (∀ o i, d.kind = .reply → d.body = .read .noObject o i → s.startReply = begun s (own 0x80 [1])) ∧
      (∀ m, d.kind = .report → d.body = .report m → ∃ highest,
        (s.startReply = begun { s with cap := { s.cap with highest := highest } }
          (own 0x81 ([BitVec.ofNat 8 (min m.toNat s.cap.ring.length), BitVec.ofNat 8 s.cap.ring.length] ++
            (s.cap.ring.take m.toNat).flatMap recordOctets))) ∧
        (s.cap.ring.take m.toNat = [] → highest = s.cap.highest) ∧
        ∀ front newest, s.cap.ring.take m.toNat = front ++ [newest] →
          (s.cap.InReportedSpan newest.seq → highest = s.cap.highest) ∧
          (¬ s.cap.InReportedSpan newest.seq → highest = some newest.seq)) ∧
      (∀ (i : Fin 8) (e : Station), d.kind = .notice → d.body = .notice → s.addr[i] = some e →
        (∀ j < i, s.addr[j] = none) → s.startReply = begun
          { s with notices := { queue := s.notices.queue.drop 12, outstanding := false }
                   port := { s.port with noticeSeq := s.port.noticeSeq + 1 } }
          (wire [s.cfg.reportAddress, e.address, 0x82, s.port.noticeSeq, BitVec.ofNat 8 s.cfg.replyHops, 0]
            (BitVec.ofNat 8 (min 12 s.notices.queue.length) :: (s.notices.queue.take 12).flatMap noticeOctets)))
end

