-- ==== Sys2Proof/Laws/State.lean ====
section
/-! SUPPORT. One lemma for each field of State under each named update: the updated field, and the others. -/

namespace Sys2Proof.Machine


/-! ## setResetHeld -/

@[simp] theorem State.setResetHeld_resetHeld (s : State) (v : Bool) : (s.setResetHeld v).resetHeld = v := rfl
@[simp] theorem State.setResetHeld_rate (s : State) (v : Bool) : (s.setResetHeld v).rate = s.rate := rfl
@[simp] theorem State.setResetHeld_rx (s : State) (v : Bool) : (s.setResetHeld v).rx = s.rx := rfl
@[simp] theorem State.setResetHeld_port (s : State) (v : Bool) : (s.setResetHeld v).port = s.port := rfl
@[simp] theorem State.setResetHeld_time (s : State) (v : Bool) : (s.setResetHeld v).time = s.time := rfl
@[simp] theorem State.setResetHeld_sched (s : State) (v : Bool) : (s.setResetHeld v).sched = s.sched := rfl
@[simp] theorem State.setResetHeld_out (s : State) (v : Bool) : (s.setResetHeld v).out = s.out := rfl
@[simp] theorem State.setResetHeld_cap (s : State) (v : Bool) : (s.setResetHeld v).cap = s.cap := rfl
@[simp] theorem State.setResetHeld_faults (s : State) (v : Bool) : (s.setResetHeld v).faults = s.faults := rfl
@[simp] theorem State.setResetHeld_notices (s : State) (v : Bool) : (s.setResetHeld v).notices = s.notices := rfl
@[simp] theorem State.setResetHeld_addr (s : State) (v : Bool) : (s.setResetHeld v).addr = s.addr := rfl
@[simp] theorem State.setResetHeld_owner (s : State) (v : Bool) : (s.setResetHeld v).owner = s.owner := rfl
@[simp] theorem State.setResetHeld_cfg (s : State) (v : Bool) : (s.setResetHeld v).cfg = s.cfg := rfl
@[simp] theorem State.setResetHeld_choices (s : State) (v : Bool) : (s.setResetHeld v).choices = s.choices := rfl
@[simp] theorem State.setResetHeld_pending (s : State) (v : Bool) : (s.setResetHeld v).pending = s.pending := rfl

/-! ## setRate -/

@[simp] theorem State.setRate_resetHeld (s : State) (v : LineRate) : (s.setRate v).resetHeld = s.resetHeld := rfl
@[simp] theorem State.setRate_rate (s : State) (v : LineRate) : (s.setRate v).rate = v := rfl
@[simp] theorem State.setRate_rx (s : State) (v : LineRate) : (s.setRate v).rx = s.rx := rfl
@[simp] theorem State.setRate_port (s : State) (v : LineRate) : (s.setRate v).port = s.port := rfl
@[simp] theorem State.setRate_time (s : State) (v : LineRate) : (s.setRate v).time = s.time := rfl
@[simp] theorem State.setRate_sched (s : State) (v : LineRate) : (s.setRate v).sched = s.sched := rfl
@[simp] theorem State.setRate_out (s : State) (v : LineRate) : (s.setRate v).out = s.out := rfl
@[simp] theorem State.setRate_cap (s : State) (v : LineRate) : (s.setRate v).cap = s.cap := rfl
@[simp] theorem State.setRate_faults (s : State) (v : LineRate) : (s.setRate v).faults = s.faults := rfl
@[simp] theorem State.setRate_notices (s : State) (v : LineRate) : (s.setRate v).notices = s.notices := rfl
@[simp] theorem State.setRate_addr (s : State) (v : LineRate) : (s.setRate v).addr = s.addr := rfl
@[simp] theorem State.setRate_owner (s : State) (v : LineRate) : (s.setRate v).owner = s.owner := rfl
@[simp] theorem State.setRate_cfg (s : State) (v : LineRate) : (s.setRate v).cfg = s.cfg := rfl
@[simp] theorem State.setRate_choices (s : State) (v : LineRate) : (s.setRate v).choices = s.choices := rfl
@[simp] theorem State.setRate_pending (s : State) (v : LineRate) : (s.setRate v).pending = s.pending := rfl

/-! ## setRx -/

@[simp] theorem State.setRx_resetHeld (s : State) (v : Receiver) : (s.setRx v).resetHeld = s.resetHeld := rfl
@[simp] theorem State.setRx_rate (s : State) (v : Receiver) : (s.setRx v).rate = s.rate := rfl
@[simp] theorem State.setRx_rx (s : State) (v : Receiver) : (s.setRx v).rx = v := rfl
@[simp] theorem State.setRx_port (s : State) (v : Receiver) : (s.setRx v).port = s.port := rfl
@[simp] theorem State.setRx_time (s : State) (v : Receiver) : (s.setRx v).time = s.time := rfl
@[simp] theorem State.setRx_sched (s : State) (v : Receiver) : (s.setRx v).sched = s.sched := rfl
@[simp] theorem State.setRx_out (s : State) (v : Receiver) : (s.setRx v).out = s.out := rfl
@[simp] theorem State.setRx_cap (s : State) (v : Receiver) : (s.setRx v).cap = s.cap := rfl
@[simp] theorem State.setRx_faults (s : State) (v : Receiver) : (s.setRx v).faults = s.faults := rfl
@[simp] theorem State.setRx_notices (s : State) (v : Receiver) : (s.setRx v).notices = s.notices := rfl
@[simp] theorem State.setRx_addr (s : State) (v : Receiver) : (s.setRx v).addr = s.addr := rfl
@[simp] theorem State.setRx_owner (s : State) (v : Receiver) : (s.setRx v).owner = s.owner := rfl
@[simp] theorem State.setRx_cfg (s : State) (v : Receiver) : (s.setRx v).cfg = s.cfg := rfl
@[simp] theorem State.setRx_choices (s : State) (v : Receiver) : (s.setRx v).choices = s.choices := rfl
@[simp] theorem State.setRx_pending (s : State) (v : Receiver) : (s.setRx v).pending = s.pending := rfl

/-! ## setPort -/

@[simp] theorem State.setPort_resetHeld (s : State) (v : OutputPort) : (s.setPort v).resetHeld = s.resetHeld := rfl
@[simp] theorem State.setPort_rate (s : State) (v : OutputPort) : (s.setPort v).rate = s.rate := rfl
@[simp] theorem State.setPort_rx (s : State) (v : OutputPort) : (s.setPort v).rx = s.rx := rfl
@[simp] theorem State.setPort_port (s : State) (v : OutputPort) : (s.setPort v).port = v := rfl
@[simp] theorem State.setPort_time (s : State) (v : OutputPort) : (s.setPort v).time = s.time := rfl
@[simp] theorem State.setPort_sched (s : State) (v : OutputPort) : (s.setPort v).sched = s.sched := rfl
@[simp] theorem State.setPort_out (s : State) (v : OutputPort) : (s.setPort v).out = s.out := rfl
@[simp] theorem State.setPort_cap (s : State) (v : OutputPort) : (s.setPort v).cap = s.cap := rfl
@[simp] theorem State.setPort_faults (s : State) (v : OutputPort) : (s.setPort v).faults = s.faults := rfl
@[simp] theorem State.setPort_notices (s : State) (v : OutputPort) : (s.setPort v).notices = s.notices := rfl
@[simp] theorem State.setPort_addr (s : State) (v : OutputPort) : (s.setPort v).addr = s.addr := rfl
@[simp] theorem State.setPort_owner (s : State) (v : OutputPort) : (s.setPort v).owner = s.owner := rfl
@[simp] theorem State.setPort_cfg (s : State) (v : OutputPort) : (s.setPort v).cfg = s.cfg := rfl
@[simp] theorem State.setPort_choices (s : State) (v : OutputPort) : (s.setPort v).choices = s.choices := rfl
@[simp] theorem State.setPort_pending (s : State) (v : OutputPort) : (s.setPort v).pending = s.pending := rfl

/-! ## setTime -/

@[simp] theorem State.setTime_resetHeld (s : State) (v : TimeBase) : (s.setTime v).resetHeld = s.resetHeld := rfl
@[simp] theorem State.setTime_rate (s : State) (v : TimeBase) : (s.setTime v).rate = s.rate := rfl
@[simp] theorem State.setTime_rx (s : State) (v : TimeBase) : (s.setTime v).rx = s.rx := rfl
@[simp] theorem State.setTime_port (s : State) (v : TimeBase) : (s.setTime v).port = s.port := rfl
@[simp] theorem State.setTime_time (s : State) (v : TimeBase) : (s.setTime v).time = v := rfl
@[simp] theorem State.setTime_sched (s : State) (v : TimeBase) : (s.setTime v).sched = s.sched := rfl
@[simp] theorem State.setTime_out (s : State) (v : TimeBase) : (s.setTime v).out = s.out := rfl
@[simp] theorem State.setTime_cap (s : State) (v : TimeBase) : (s.setTime v).cap = s.cap := rfl
@[simp] theorem State.setTime_faults (s : State) (v : TimeBase) : (s.setTime v).faults = s.faults := rfl
@[simp] theorem State.setTime_notices (s : State) (v : TimeBase) : (s.setTime v).notices = s.notices := rfl
@[simp] theorem State.setTime_addr (s : State) (v : TimeBase) : (s.setTime v).addr = s.addr := rfl
@[simp] theorem State.setTime_owner (s : State) (v : TimeBase) : (s.setTime v).owner = s.owner := rfl
@[simp] theorem State.setTime_cfg (s : State) (v : TimeBase) : (s.setTime v).cfg = s.cfg := rfl
@[simp] theorem State.setTime_choices (s : State) (v : TimeBase) : (s.setTime v).choices = s.choices := rfl
@[simp] theorem State.setTime_pending (s : State) (v : TimeBase) : (s.setTime v).pending = s.pending := rfl

/-! ## setSched -/

@[simp] theorem State.setSched_resetHeld (s : State) (v : Scheduler) : (s.setSched v).resetHeld = s.resetHeld := rfl
@[simp] theorem State.setSched_rate (s : State) (v : Scheduler) : (s.setSched v).rate = s.rate := rfl
@[simp] theorem State.setSched_rx (s : State) (v : Scheduler) : (s.setSched v).rx = s.rx := rfl
@[simp] theorem State.setSched_port (s : State) (v : Scheduler) : (s.setSched v).port = s.port := rfl
@[simp] theorem State.setSched_time (s : State) (v : Scheduler) : (s.setSched v).time = s.time := rfl
@[simp] theorem State.setSched_sched (s : State) (v : Scheduler) : (s.setSched v).sched = v := rfl
@[simp] theorem State.setSched_out (s : State) (v : Scheduler) : (s.setSched v).out = s.out := rfl
@[simp] theorem State.setSched_cap (s : State) (v : Scheduler) : (s.setSched v).cap = s.cap := rfl
@[simp] theorem State.setSched_faults (s : State) (v : Scheduler) : (s.setSched v).faults = s.faults := rfl
@[simp] theorem State.setSched_notices (s : State) (v : Scheduler) : (s.setSched v).notices = s.notices := rfl
@[simp] theorem State.setSched_addr (s : State) (v : Scheduler) : (s.setSched v).addr = s.addr := rfl
@[simp] theorem State.setSched_owner (s : State) (v : Scheduler) : (s.setSched v).owner = s.owner := rfl
@[simp] theorem State.setSched_cfg (s : State) (v : Scheduler) : (s.setSched v).cfg = s.cfg := rfl
@[simp] theorem State.setSched_choices (s : State) (v : Scheduler) : (s.setSched v).choices = s.choices := rfl
@[simp] theorem State.setSched_pending (s : State) (v : Scheduler) : (s.setSched v).pending = s.pending := rfl

/-! ## setOut -/

@[simp] theorem State.setOut_resetHeld (s : State) (v : Outputs) : (s.setOut v).resetHeld = s.resetHeld := rfl
@[simp] theorem State.setOut_rate (s : State) (v : Outputs) : (s.setOut v).rate = s.rate := rfl
@[simp] theorem State.setOut_rx (s : State) (v : Outputs) : (s.setOut v).rx = s.rx := rfl
@[simp] theorem State.setOut_port (s : State) (v : Outputs) : (s.setOut v).port = s.port := rfl
@[simp] theorem State.setOut_time (s : State) (v : Outputs) : (s.setOut v).time = s.time := rfl
@[simp] theorem State.setOut_sched (s : State) (v : Outputs) : (s.setOut v).sched = s.sched := rfl
@[simp] theorem State.setOut_out (s : State) (v : Outputs) : (s.setOut v).out = v := rfl
@[simp] theorem State.setOut_cap (s : State) (v : Outputs) : (s.setOut v).cap = s.cap := rfl
@[simp] theorem State.setOut_faults (s : State) (v : Outputs) : (s.setOut v).faults = s.faults := rfl
@[simp] theorem State.setOut_notices (s : State) (v : Outputs) : (s.setOut v).notices = s.notices := rfl
@[simp] theorem State.setOut_addr (s : State) (v : Outputs) : (s.setOut v).addr = s.addr := rfl
@[simp] theorem State.setOut_owner (s : State) (v : Outputs) : (s.setOut v).owner = s.owner := rfl
@[simp] theorem State.setOut_cfg (s : State) (v : Outputs) : (s.setOut v).cfg = s.cfg := rfl
@[simp] theorem State.setOut_choices (s : State) (v : Outputs) : (s.setOut v).choices = s.choices := rfl
@[simp] theorem State.setOut_pending (s : State) (v : Outputs) : (s.setOut v).pending = s.pending := rfl

/-! ## setCap -/

@[simp] theorem State.setCap_resetHeld (s : State) (v : CaptureUnit) : (s.setCap v).resetHeld = s.resetHeld := rfl
@[simp] theorem State.setCap_rate (s : State) (v : CaptureUnit) : (s.setCap v).rate = s.rate := rfl
@[simp] theorem State.setCap_rx (s : State) (v : CaptureUnit) : (s.setCap v).rx = s.rx := rfl
@[simp] theorem State.setCap_port (s : State) (v : CaptureUnit) : (s.setCap v).port = s.port := rfl
@[simp] theorem State.setCap_time (s : State) (v : CaptureUnit) : (s.setCap v).time = s.time := rfl
@[simp] theorem State.setCap_sched (s : State) (v : CaptureUnit) : (s.setCap v).sched = s.sched := rfl
@[simp] theorem State.setCap_out (s : State) (v : CaptureUnit) : (s.setCap v).out = s.out := rfl
@[simp] theorem State.setCap_cap (s : State) (v : CaptureUnit) : (s.setCap v).cap = v := rfl
@[simp] theorem State.setCap_faults (s : State) (v : CaptureUnit) : (s.setCap v).faults = s.faults := rfl
@[simp] theorem State.setCap_notices (s : State) (v : CaptureUnit) : (s.setCap v).notices = s.notices := rfl
@[simp] theorem State.setCap_addr (s : State) (v : CaptureUnit) : (s.setCap v).addr = s.addr := rfl
@[simp] theorem State.setCap_owner (s : State) (v : CaptureUnit) : (s.setCap v).owner = s.owner := rfl
@[simp] theorem State.setCap_cfg (s : State) (v : CaptureUnit) : (s.setCap v).cfg = s.cfg := rfl
@[simp] theorem State.setCap_choices (s : State) (v : CaptureUnit) : (s.setCap v).choices = s.choices := rfl
@[simp] theorem State.setCap_pending (s : State) (v : CaptureUnit) : (s.setCap v).pending = s.pending := rfl

/-! ## setFaults -/

@[simp] theorem State.setFaults_resetHeld (s : State) (v : FaultSet) : (s.setFaults v).resetHeld = s.resetHeld := rfl
@[simp] theorem State.setFaults_rate (s : State) (v : FaultSet) : (s.setFaults v).rate = s.rate := rfl
@[simp] theorem State.setFaults_rx (s : State) (v : FaultSet) : (s.setFaults v).rx = s.rx := rfl
@[simp] theorem State.setFaults_port (s : State) (v : FaultSet) : (s.setFaults v).port = s.port := rfl
@[simp] theorem State.setFaults_time (s : State) (v : FaultSet) : (s.setFaults v).time = s.time := rfl
@[simp] theorem State.setFaults_sched (s : State) (v : FaultSet) : (s.setFaults v).sched = s.sched := rfl
@[simp] theorem State.setFaults_out (s : State) (v : FaultSet) : (s.setFaults v).out = s.out := rfl
@[simp] theorem State.setFaults_cap (s : State) (v : FaultSet) : (s.setFaults v).cap = s.cap := rfl
@[simp] theorem State.setFaults_faults (s : State) (v : FaultSet) : (s.setFaults v).faults = v := rfl
@[simp] theorem State.setFaults_notices (s : State) (v : FaultSet) : (s.setFaults v).notices = s.notices := rfl
@[simp] theorem State.setFaults_addr (s : State) (v : FaultSet) : (s.setFaults v).addr = s.addr := rfl
@[simp] theorem State.setFaults_owner (s : State) (v : FaultSet) : (s.setFaults v).owner = s.owner := rfl
@[simp] theorem State.setFaults_cfg (s : State) (v : FaultSet) : (s.setFaults v).cfg = s.cfg := rfl
@[simp] theorem State.setFaults_choices (s : State) (v : FaultSet) : (s.setFaults v).choices = s.choices := rfl
@[simp] theorem State.setFaults_pending (s : State) (v : FaultSet) : (s.setFaults v).pending = s.pending := rfl

/-! ## setNotices -/

@[simp] theorem State.setNotices_resetHeld (s : State) (v : NoticeUnit) : (s.setNotices v).resetHeld = s.resetHeld := rfl
@[simp] theorem State.setNotices_rate (s : State) (v : NoticeUnit) : (s.setNotices v).rate = s.rate := rfl
@[simp] theorem State.setNotices_rx (s : State) (v : NoticeUnit) : (s.setNotices v).rx = s.rx := rfl
@[simp] theorem State.setNotices_port (s : State) (v : NoticeUnit) : (s.setNotices v).port = s.port := rfl
@[simp] theorem State.setNotices_time (s : State) (v : NoticeUnit) : (s.setNotices v).time = s.time := rfl
@[simp] theorem State.setNotices_sched (s : State) (v : NoticeUnit) : (s.setNotices v).sched = s.sched := rfl
@[simp] theorem State.setNotices_out (s : State) (v : NoticeUnit) : (s.setNotices v).out = s.out := rfl
@[simp] theorem State.setNotices_cap (s : State) (v : NoticeUnit) : (s.setNotices v).cap = s.cap := rfl
@[simp] theorem State.setNotices_faults (s : State) (v : NoticeUnit) : (s.setNotices v).faults = s.faults := rfl
@[simp] theorem State.setNotices_notices (s : State) (v : NoticeUnit) : (s.setNotices v).notices = v := rfl
@[simp] theorem State.setNotices_addr (s : State) (v : NoticeUnit) : (s.setNotices v).addr = s.addr := rfl
@[simp] theorem State.setNotices_owner (s : State) (v : NoticeUnit) : (s.setNotices v).owner = s.owner := rfl
@[simp] theorem State.setNotices_cfg (s : State) (v : NoticeUnit) : (s.setNotices v).cfg = s.cfg := rfl
@[simp] theorem State.setNotices_choices (s : State) (v : NoticeUnit) : (s.setNotices v).choices = s.choices := rfl
@[simp] theorem State.setNotices_pending (s : State) (v : NoticeUnit) : (s.setNotices v).pending = s.pending := rfl

/-! ## setAddr -/

@[simp] theorem State.setAddr_resetHeld (s : State) (v : Vector (Option Station) 8) : (s.setAddr v).resetHeld = s.resetHeld := rfl
@[simp] theorem State.setAddr_rate (s : State) (v : Vector (Option Station) 8) : (s.setAddr v).rate = s.rate := rfl
@[simp] theorem State.setAddr_rx (s : State) (v : Vector (Option Station) 8) : (s.setAddr v).rx = s.rx := rfl
@[simp] theorem State.setAddr_port (s : State) (v : Vector (Option Station) 8) : (s.setAddr v).port = s.port := rfl
@[simp] theorem State.setAddr_time (s : State) (v : Vector (Option Station) 8) : (s.setAddr v).time = s.time := rfl
@[simp] theorem State.setAddr_sched (s : State) (v : Vector (Option Station) 8) : (s.setAddr v).sched = s.sched := rfl
@[simp] theorem State.setAddr_out (s : State) (v : Vector (Option Station) 8) : (s.setAddr v).out = s.out := rfl
@[simp] theorem State.setAddr_cap (s : State) (v : Vector (Option Station) 8) : (s.setAddr v).cap = s.cap := rfl
@[simp] theorem State.setAddr_faults (s : State) (v : Vector (Option Station) 8) : (s.setAddr v).faults = s.faults := rfl
@[simp] theorem State.setAddr_notices (s : State) (v : Vector (Option Station) 8) : (s.setAddr v).notices = s.notices := rfl
@[simp] theorem State.setAddr_addr (s : State) (v : Vector (Option Station) 8) : (s.setAddr v).addr = v := rfl
@[simp] theorem State.setAddr_owner (s : State) (v : Vector (Option Station) 8) : (s.setAddr v).owner = s.owner := rfl
@[simp] theorem State.setAddr_cfg (s : State) (v : Vector (Option Station) 8) : (s.setAddr v).cfg = s.cfg := rfl
@[simp] theorem State.setAddr_choices (s : State) (v : Vector (Option Station) 8) : (s.setAddr v).choices = s.choices := rfl
@[simp] theorem State.setAddr_pending (s : State) (v : Vector (Option Station) 8) : (s.setAddr v).pending = s.pending := rfl

/-! ## setOwner -/

@[simp] theorem State.setOwner_resetHeld (s : State) (v : Octet) : (s.setOwner v).resetHeld = s.resetHeld := rfl
@[simp] theorem State.setOwner_rate (s : State) (v : Octet) : (s.setOwner v).rate = s.rate := rfl
@[simp] theorem State.setOwner_rx (s : State) (v : Octet) : (s.setOwner v).rx = s.rx := rfl
@[simp] theorem State.setOwner_port (s : State) (v : Octet) : (s.setOwner v).port = s.port := rfl
@[simp] theorem State.setOwner_time (s : State) (v : Octet) : (s.setOwner v).time = s.time := rfl
@[simp] theorem State.setOwner_sched (s : State) (v : Octet) : (s.setOwner v).sched = s.sched := rfl
@[simp] theorem State.setOwner_out (s : State) (v : Octet) : (s.setOwner v).out = s.out := rfl
@[simp] theorem State.setOwner_cap (s : State) (v : Octet) : (s.setOwner v).cap = s.cap := rfl
@[simp] theorem State.setOwner_faults (s : State) (v : Octet) : (s.setOwner v).faults = s.faults := rfl
@[simp] theorem State.setOwner_notices (s : State) (v : Octet) : (s.setOwner v).notices = s.notices := rfl
@[simp] theorem State.setOwner_addr (s : State) (v : Octet) : (s.setOwner v).addr = s.addr := rfl
@[simp] theorem State.setOwner_owner (s : State) (v : Octet) : (s.setOwner v).owner = v := rfl
@[simp] theorem State.setOwner_cfg (s : State) (v : Octet) : (s.setOwner v).cfg = s.cfg := rfl
@[simp] theorem State.setOwner_choices (s : State) (v : Octet) : (s.setOwner v).choices = s.choices := rfl
@[simp] theorem State.setOwner_pending (s : State) (v : Octet) : (s.setOwner v).pending = s.pending := rfl

/-! ## setCfg -/

@[simp] theorem State.setCfg_resetHeld (s : State) (v : ConfigFields) : (s.setCfg v).resetHeld = s.resetHeld := rfl
@[simp] theorem State.setCfg_rate (s : State) (v : ConfigFields) : (s.setCfg v).rate = s.rate := rfl
@[simp] theorem State.setCfg_rx (s : State) (v : ConfigFields) : (s.setCfg v).rx = s.rx := rfl
@[simp] theorem State.setCfg_port (s : State) (v : ConfigFields) : (s.setCfg v).port = s.port := rfl
@[simp] theorem State.setCfg_time (s : State) (v : ConfigFields) : (s.setCfg v).time = s.time := rfl
@[simp] theorem State.setCfg_sched (s : State) (v : ConfigFields) : (s.setCfg v).sched = s.sched := rfl
@[simp] theorem State.setCfg_out (s : State) (v : ConfigFields) : (s.setCfg v).out = s.out := rfl
@[simp] theorem State.setCfg_cap (s : State) (v : ConfigFields) : (s.setCfg v).cap = s.cap := rfl
@[simp] theorem State.setCfg_faults (s : State) (v : ConfigFields) : (s.setCfg v).faults = s.faults := rfl
@[simp] theorem State.setCfg_notices (s : State) (v : ConfigFields) : (s.setCfg v).notices = s.notices := rfl
@[simp] theorem State.setCfg_addr (s : State) (v : ConfigFields) : (s.setCfg v).addr = s.addr := rfl
@[simp] theorem State.setCfg_owner (s : State) (v : ConfigFields) : (s.setCfg v).owner = s.owner := rfl
@[simp] theorem State.setCfg_cfg (s : State) (v : ConfigFields) : (s.setCfg v).cfg = v := rfl
@[simp] theorem State.setCfg_choices (s : State) (v : ConfigFields) : (s.setCfg v).choices = s.choices := rfl
@[simp] theorem State.setCfg_pending (s : State) (v : ConfigFields) : (s.setCfg v).pending = s.pending := rfl

/-! ## setChoices -/

@[simp] theorem State.setChoices_resetHeld (s : State) (v : Nat) : (s.setChoices v).resetHeld = s.resetHeld := rfl
@[simp] theorem State.setChoices_rate (s : State) (v : Nat) : (s.setChoices v).rate = s.rate := rfl
@[simp] theorem State.setChoices_rx (s : State) (v : Nat) : (s.setChoices v).rx = s.rx := rfl
@[simp] theorem State.setChoices_port (s : State) (v : Nat) : (s.setChoices v).port = s.port := rfl
@[simp] theorem State.setChoices_time (s : State) (v : Nat) : (s.setChoices v).time = s.time := rfl
@[simp] theorem State.setChoices_sched (s : State) (v : Nat) : (s.setChoices v).sched = s.sched := rfl
@[simp] theorem State.setChoices_out (s : State) (v : Nat) : (s.setChoices v).out = s.out := rfl
@[simp] theorem State.setChoices_cap (s : State) (v : Nat) : (s.setChoices v).cap = s.cap := rfl
@[simp] theorem State.setChoices_faults (s : State) (v : Nat) : (s.setChoices v).faults = s.faults := rfl
@[simp] theorem State.setChoices_notices (s : State) (v : Nat) : (s.setChoices v).notices = s.notices := rfl
@[simp] theorem State.setChoices_addr (s : State) (v : Nat) : (s.setChoices v).addr = s.addr := rfl
@[simp] theorem State.setChoices_owner (s : State) (v : Nat) : (s.setChoices v).owner = s.owner := rfl
@[simp] theorem State.setChoices_cfg (s : State) (v : Nat) : (s.setChoices v).cfg = s.cfg := rfl
@[simp] theorem State.setChoices_choices (s : State) (v : Nat) : (s.setChoices v).choices = v := rfl
@[simp] theorem State.setChoices_pending (s : State) (v : Nat) : (s.setChoices v).pending = s.pending := rfl

/-! ## setPending -/

@[simp] theorem State.setPending_resetHeld (s : State) (v : List Instr) : (s.setPending v).resetHeld = s.resetHeld := rfl
@[simp] theorem State.setPending_rate (s : State) (v : List Instr) : (s.setPending v).rate = s.rate := rfl
@[simp] theorem State.setPending_rx (s : State) (v : List Instr) : (s.setPending v).rx = s.rx := rfl
@[simp] theorem State.setPending_port (s : State) (v : List Instr) : (s.setPending v).port = s.port := rfl
@[simp] theorem State.setPending_time (s : State) (v : List Instr) : (s.setPending v).time = s.time := rfl
@[simp] theorem State.setPending_sched (s : State) (v : List Instr) : (s.setPending v).sched = s.sched := rfl
@[simp] theorem State.setPending_out (s : State) (v : List Instr) : (s.setPending v).out = s.out := rfl
@[simp] theorem State.setPending_cap (s : State) (v : List Instr) : (s.setPending v).cap = s.cap := rfl
@[simp] theorem State.setPending_faults (s : State) (v : List Instr) : (s.setPending v).faults = s.faults := rfl
@[simp] theorem State.setPending_notices (s : State) (v : List Instr) : (s.setPending v).notices = s.notices := rfl
@[simp] theorem State.setPending_addr (s : State) (v : List Instr) : (s.setPending v).addr = s.addr := rfl
@[simp] theorem State.setPending_owner (s : State) (v : List Instr) : (s.setPending v).owner = s.owner := rfl
@[simp] theorem State.setPending_cfg (s : State) (v : List Instr) : (s.setPending v).cfg = s.cfg := rfl
@[simp] theorem State.setPending_choices (s : State) (v : List Instr) : (s.setPending v).choices = s.choices := rfl
@[simp] theorem State.setPending_pending (s : State) (v : List Instr) : (s.setPending v).pending = v := rfl

end Sys2Proof.Machine
end

