-- ==== Sys2Proof/Laws/Ops.lean ====
section
/-! SUPPORT. What each shared operation over faults, notices, channels and the wheel leaves unchanged, and what each can
do, said once. -/

namespace Sys2Proof.Machine

/-! ## Outcomes -/

/-- A command of a part that is up answers its effect. -/
theorem answer_up {s t : State} (h : s.resetHeld = false) : answer s t = .next t := by simp [answer, h]

/-- R195: a command of a part held in reset answers the state as it is. -/
theorem answer_held {s t : State} (h : s.resetHeld = true) : answer s t = .next s := by simp [answer, h]

/-- What `answer` can do. -/
theorem answer_cases {s t u : State} (h : answer s t = .next u) :
    (s.resetHeld = true ∧ u = s) ∨ (s.resetHeld = false ∧ u = t) := by
  cases hr : s.resetHeld
  · rw [answer_up hr] at h; cases h; exact .inr ⟨rfl, rfl⟩
  · rw [answer_held hr] at h; cases h; exact .inl ⟨rfl, rfl⟩

/-- A quantity that every turn of a walk keeps is kept by the walk. -/
theorem foldl_keeps {α β γ : Type} (f : β → α → β) (g : β → γ) (h : ∀ b a, g (f b a) = g b) (l : List α) (b : β) :
    g (l.foldl f b) = g b := by
  induction l generalizing b with
  | nil => rfl
  | cons a l ih => simp [ih, h]

/-- A property that every turn of a walk keeps is kept by the walk. -/
theorem foldl_inv {α β : Type} (f : β → α → β) (P : β → Prop) (h : ∀ b a, P b → P (f b a)) (l : List α) (b : β)
    (hb : P b) : P (l.foldl f b) := by
  induction l generalizing b with
  | nil => exact hb
  | cons a l ih => exact ih _ (h _ _ hb)

/-! ## The two frames -/

/-- What every release, raise and notice keeps: all but the Scheduler, the channel states, the latched flags and the
Notice Queue. -/
structure State.EffectsOnly (s t : State) : Prop where
  resetHeld : t.resetHeld = s.resetHeld
  rate : t.rate = s.rate
  rx : t.rx = s.rx
  port : t.port = s.port
  time : t.time = s.time
  cap : t.cap = s.cap
  addr : t.addr = s.addr
  owner : t.owner = s.owner
  cfg : t.cfg = s.cfg
  choices : t.choices = s.choices
  pending : t.pending = s.pending
  out_table : t.out.table = s.out.table
  notices_outstanding : t.notices.outstanding = s.notices.outstanding
  faults_active : t.faults.active = s.faults.active

/-- What every raise and notice keeps besides: the pool, the wheel and the current slot number. -/
structure State.NoticesOnly (s t : State) : Prop extends State.EffectsOnly s t where
  sched_curSlot : t.sched.curSlot = s.sched.curSlot
  sched_free : t.sched.free = s.sched.free
  sched_wheel : t.sched.wheel = s.sched.wheel

theorem State.EffectsOnly.refl (s : State) : s.EffectsOnly s := by constructor <;> rfl

theorem State.NoticesOnly.refl (s : State) : s.NoticesOnly s := ⟨.refl s, rfl, rfl, rfl⟩

theorem State.EffectsOnly.trans {s t u : State} (h : s.EffectsOnly t) (k : t.EffectsOnly u) : s.EffectsOnly u :=
  ⟨k.resetHeld.trans h.resetHeld, k.rate.trans h.rate, k.rx.trans h.rx, k.port.trans h.port, k.time.trans h.time, k.cap.trans h.cap, k.addr.trans h.addr, k.owner.trans h.owner, k.cfg.trans h.cfg, k.choices.trans h.choices, k.pending.trans h.pending, k.out_table.trans h.out_table, k.notices_outstanding.trans h.notices_outstanding, k.faults_active.trans h.faults_active⟩

theorem State.NoticesOnly.trans {s t u : State} (h : s.NoticesOnly t) (k : t.NoticesOnly u) : s.NoticesOnly u :=
  ⟨h.toEffectsOnly.trans k.toEffectsOnly, k.sched_curSlot.trans h.sched_curSlot, k.sched_free.trans h.sched_free,
   k.sched_wheel.trans h.sched_wheel⟩

/-! ## Flags and channels -/

@[simp] theorem State.latch_resetHeld (s : State) (k : FaultKind) : (s.latch k).resetHeld = s.resetHeld := rfl
@[simp] theorem State.latch_rate (s : State) (k : FaultKind) : (s.latch k).rate = s.rate := rfl
@[simp] theorem State.latch_rx (s : State) (k : FaultKind) : (s.latch k).rx = s.rx := rfl
@[simp] theorem State.latch_port (s : State) (k : FaultKind) : (s.latch k).port = s.port := rfl
@[simp] theorem State.latch_time (s : State) (k : FaultKind) : (s.latch k).time = s.time := rfl
@[simp] theorem State.latch_sched (s : State) (k : FaultKind) : (s.latch k).sched = s.sched := rfl
@[simp] theorem State.latch_out (s : State) (k : FaultKind) : (s.latch k).out = s.out := rfl
@[simp] theorem State.latch_cap (s : State) (k : FaultKind) : (s.latch k).cap = s.cap := rfl
@[simp] theorem State.latch_notices (s : State) (k : FaultKind) : (s.latch k).notices = s.notices := rfl
@[simp] theorem State.latch_addr (s : State) (k : FaultKind) : (s.latch k).addr = s.addr := rfl
@[simp] theorem State.latch_owner (s : State) (k : FaultKind) : (s.latch k).owner = s.owner := rfl
@[simp] theorem State.latch_cfg (s : State) (k : FaultKind) : (s.latch k).cfg = s.cfg := rfl
@[simp] theorem State.latch_choices (s : State) (k : FaultKind) : (s.latch k).choices = s.choices := rfl
@[simp] theorem State.latch_pending (s : State) (k : FaultKind) : (s.latch k).pending = s.pending := rfl

@[simp] theorem State.activate_resetHeld (s : State) (k : FaultKind) : (s.activate k).resetHeld = s.resetHeld := rfl
@[simp] theorem State.activate_rate (s : State) (k : FaultKind) : (s.activate k).rate = s.rate := rfl
@[simp] theorem State.activate_rx (s : State) (k : FaultKind) : (s.activate k).rx = s.rx := rfl
@[simp] theorem State.activate_port (s : State) (k : FaultKind) : (s.activate k).port = s.port := rfl
@[simp] theorem State.activate_time (s : State) (k : FaultKind) : (s.activate k).time = s.time := rfl
@[simp] theorem State.activate_sched (s : State) (k : FaultKind) : (s.activate k).sched = s.sched := rfl
@[simp] theorem State.activate_out (s : State) (k : FaultKind) : (s.activate k).out = s.out := rfl
@[simp] theorem State.activate_cap (s : State) (k : FaultKind) : (s.activate k).cap = s.cap := rfl
@[simp] theorem State.activate_notices (s : State) (k : FaultKind) : (s.activate k).notices = s.notices := rfl
@[simp] theorem State.activate_addr (s : State) (k : FaultKind) : (s.activate k).addr = s.addr := rfl
@[simp] theorem State.activate_owner (s : State) (k : FaultKind) : (s.activate k).owner = s.owner := rfl
@[simp] theorem State.activate_cfg (s : State) (k : FaultKind) : (s.activate k).cfg = s.cfg := rfl
@[simp] theorem State.activate_choices (s : State) (k : FaultKind) : (s.activate k).choices = s.choices := rfl
@[simp] theorem State.activate_pending (s : State) (k : FaultKind) : (s.activate k).pending = s.pending := rfl

@[simp] theorem State.deactivate_resetHeld (s : State) (k : FaultKind) : (s.deactivate k).resetHeld = s.resetHeld := rfl
@[simp] theorem State.deactivate_rate (s : State) (k : FaultKind) : (s.deactivate k).rate = s.rate := rfl
@[simp] theorem State.deactivate_rx (s : State) (k : FaultKind) : (s.deactivate k).rx = s.rx := rfl
@[simp] theorem State.deactivate_port (s : State) (k : FaultKind) : (s.deactivate k).port = s.port := rfl
@[simp] theorem State.deactivate_time (s : State) (k : FaultKind) : (s.deactivate k).time = s.time := rfl
@[simp] theorem State.deactivate_sched (s : State) (k : FaultKind) : (s.deactivate k).sched = s.sched := rfl
@[simp] theorem State.deactivate_out (s : State) (k : FaultKind) : (s.deactivate k).out = s.out := rfl
@[simp] theorem State.deactivate_cap (s : State) (k : FaultKind) : (s.deactivate k).cap = s.cap := rfl
@[simp] theorem State.deactivate_notices (s : State) (k : FaultKind) : (s.deactivate k).notices = s.notices := rfl
@[simp] theorem State.deactivate_addr (s : State) (k : FaultKind) : (s.deactivate k).addr = s.addr := rfl
@[simp] theorem State.deactivate_owner (s : State) (k : FaultKind) : (s.deactivate k).owner = s.owner := rfl
@[simp] theorem State.deactivate_cfg (s : State) (k : FaultKind) : (s.deactivate k).cfg = s.cfg := rfl
@[simp] theorem State.deactivate_choices (s : State) (k : FaultKind) : (s.deactivate k).choices = s.choices := rfl
@[simp] theorem State.deactivate_pending (s : State) (k : FaultKind) : (s.deactivate k).pending = s.pending := rfl

@[simp] theorem State.latch_active (s : State) (k : FaultKind) : (s.latch k).faults.active = s.faults.active := rfl

@[simp] theorem State.safeDrive_resetHeld (s : State) : s.safeDrive.resetHeld = s.resetHeld := rfl
@[simp] theorem State.safeDrive_rate (s : State) : s.safeDrive.rate = s.rate := rfl
@[simp] theorem State.safeDrive_rx (s : State) : s.safeDrive.rx = s.rx := rfl
@[simp] theorem State.safeDrive_port (s : State) : s.safeDrive.port = s.port := rfl
@[simp] theorem State.safeDrive_time (s : State) : s.safeDrive.time = s.time := rfl
@[simp] theorem State.safeDrive_sched (s : State) : s.safeDrive.sched = s.sched := rfl
@[simp] theorem State.safeDrive_cap (s : State) : s.safeDrive.cap = s.cap := rfl
@[simp] theorem State.safeDrive_faults (s : State) : s.safeDrive.faults = s.faults := rfl
@[simp] theorem State.safeDrive_notices (s : State) : s.safeDrive.notices = s.notices := rfl
@[simp] theorem State.safeDrive_addr (s : State) : s.safeDrive.addr = s.addr := rfl
@[simp] theorem State.safeDrive_owner (s : State) : s.safeDrive.owner = s.owner := rfl
@[simp] theorem State.safeDrive_cfg (s : State) : s.safeDrive.cfg = s.cfg := rfl
@[simp] theorem State.safeDrive_choices (s : State) : s.safeDrive.choices = s.choices := rfl
@[simp] theorem State.safeDrive_pending (s : State) : s.safeDrive.pending = s.pending := rfl
@[simp] theorem State.safeDrive_out_table (s : State) : s.safeDrive.out.table = s.out.table := rfl

@[simp] theorem State.applyAction_resetHeld (s : State) (r : ActionRecord) : (s.applyAction r).resetHeld = s.resetHeld := rfl
@[simp] theorem State.applyAction_rate (s : State) (r : ActionRecord) : (s.applyAction r).rate = s.rate := rfl
@[simp] theorem State.applyAction_rx (s : State) (r : ActionRecord) : (s.applyAction r).rx = s.rx := rfl
@[simp] theorem State.applyAction_port (s : State) (r : ActionRecord) : (s.applyAction r).port = s.port := rfl
@[simp] theorem State.applyAction_time (s : State) (r : ActionRecord) : (s.applyAction r).time = s.time := rfl
@[simp] theorem State.applyAction_sched (s : State) (r : ActionRecord) : (s.applyAction r).sched = s.sched := rfl
@[simp] theorem State.applyAction_cap (s : State) (r : ActionRecord) : (s.applyAction r).cap = s.cap := rfl
@[simp] theorem State.applyAction_faults (s : State) (r : ActionRecord) : (s.applyAction r).faults = s.faults := rfl
@[simp] theorem State.applyAction_notices (s : State) (r : ActionRecord) : (s.applyAction r).notices = s.notices := rfl
@[simp] theorem State.applyAction_addr (s : State) (r : ActionRecord) : (s.applyAction r).addr = s.addr := rfl
@[simp] theorem State.applyAction_owner (s : State) (r : ActionRecord) : (s.applyAction r).owner = s.owner := rfl
@[simp] theorem State.applyAction_cfg (s : State) (r : ActionRecord) : (s.applyAction r).cfg = s.cfg := rfl
@[simp] theorem State.applyAction_choices (s : State) (r : ActionRecord) : (s.applyAction r).choices = s.choices := rfl
@[simp] theorem State.applyAction_pending (s : State) (r : ActionRecord) : (s.applyAction r).pending = s.pending := rfl
@[simp] theorem State.applyAction_out_table (s : State) (r : ActionRecord) : (s.applyAction r).out.table = s.out.table := rfl

/-! ## The FREEZE response, notices, raises and completion notices -/

theorem State.latch_noticesOnly (s : State) (k : FaultKind) : s.NoticesOnly (s.latch k) := ⟨by constructor <;> rfl, rfl, rfl, rfl⟩

theorem State.safeDrive_noticesOnly (s : State) : s.NoticesOnly s.safeDrive := ⟨by constructor <;> rfl, rfl, rfl, rfl⟩

theorem State.freezeResponse_noticesOnly (s : State) : s.NoticesOnly s.freezeResponse := by
  unfold State.freezeResponse
  split
  · exact ⟨by constructor <;> rfl, rfl, rfl, rfl⟩
  · exact s.safeDrive_noticesOnly
  · exact .refl s

theorem State.respond_noticesOnly (s : State) (k : FaultKind) : s.NoticesOnly (s.respond k) := by
  unfold State.respond
  split
  · exact s.freezeResponse_noticesOnly
  · exact .refl s

theorem State.offerNotice_noticesOnly (s : State) (b : NoticeBody) : s.NoticesOnly (s.offerNotice b) := by
  have queued : ∀ q, s.NoticesOnly (s.setNotices { s.notices with queue := q }) :=
    fun q => ⟨by constructor <;> rfl, rfl, rfl, rfl⟩
  unfold State.offerNotice
  dsimp only
  split
  · exact queued _
  · split
    · exact queued _
    · exact (queued _).trans ((State.latch_noticesOnly _ _).trans (State.respond_noticesOnly _ _))

theorem State.raise_noticesOnly (s : State) (k : FaultKind) (time : Ticks) : s.NoticesOnly (s.raise k time) := by
  unfold State.raise
  dsimp only
  split
  · exact .refl s
  · split
    · exact (s.latch_noticesOnly k).trans ((State.offerNotice_noticesOnly _ _).trans (State.respond_noticesOnly _ _))
    · exact (s.latch_noticesOnly k).trans (State.respond_noticesOnly _ _)

theorem State.offerCompletion_noticesOnly (s : State) (r : ActionRecord) (o : ActionOutcome) (time : Ticks) :
    s.NoticesOnly (s.offerCompletion r o time) := by
  unfold State.offerCompletion
  split
  · exact s.offerNotice_noticesOnly _
  · exact .refl s

@[simp] theorem State.freezeResponse_resetHeld (s : State) : s.freezeResponse.resetHeld = s.resetHeld := (s.freezeResponse_noticesOnly).resetHeld
@[simp] theorem State.freezeResponse_rate (s : State) : s.freezeResponse.rate = s.rate := (s.freezeResponse_noticesOnly).rate
@[simp] theorem State.freezeResponse_rx (s : State) : s.freezeResponse.rx = s.rx := (s.freezeResponse_noticesOnly).rx
@[simp] theorem State.freezeResponse_port (s : State) : s.freezeResponse.port = s.port := (s.freezeResponse_noticesOnly).port
@[simp] theorem State.freezeResponse_time (s : State) : s.freezeResponse.time = s.time := (s.freezeResponse_noticesOnly).time
@[simp] theorem State.freezeResponse_cap (s : State) : s.freezeResponse.cap = s.cap := (s.freezeResponse_noticesOnly).cap
@[simp] theorem State.freezeResponse_addr (s : State) : s.freezeResponse.addr = s.addr := (s.freezeResponse_noticesOnly).addr
@[simp] theorem State.freezeResponse_owner (s : State) : s.freezeResponse.owner = s.owner := (s.freezeResponse_noticesOnly).owner
@[simp] theorem State.freezeResponse_cfg (s : State) : s.freezeResponse.cfg = s.cfg := (s.freezeResponse_noticesOnly).cfg
@[simp] theorem State.freezeResponse_choices (s : State) : s.freezeResponse.choices = s.choices := (s.freezeResponse_noticesOnly).choices
@[simp] theorem State.freezeResponse_pending (s : State) : s.freezeResponse.pending = s.pending := (s.freezeResponse_noticesOnly).pending
@[simp] theorem State.freezeResponse_out_table (s : State) : s.freezeResponse.out.table = s.out.table := (s.freezeResponse_noticesOnly).out_table
@[simp] theorem State.freezeResponse_notices_outstanding (s : State) : s.freezeResponse.notices.outstanding = s.notices.outstanding := (s.freezeResponse_noticesOnly).notices_outstanding
@[simp] theorem State.freezeResponse_faults_active (s : State) : s.freezeResponse.faults.active = s.faults.active := (s.freezeResponse_noticesOnly).faults_active
@[simp] theorem State.freezeResponse_sched_curSlot (s : State) : s.freezeResponse.sched.curSlot = s.sched.curSlot := (s.freezeResponse_noticesOnly).sched_curSlot
@[simp] theorem State.freezeResponse_sched_free (s : State) : s.freezeResponse.sched.free = s.sched.free := (s.freezeResponse_noticesOnly).sched_free
@[simp] theorem State.freezeResponse_sched_wheel (s : State) : s.freezeResponse.sched.wheel = s.sched.wheel := (s.freezeResponse_noticesOnly).sched_wheel

@[simp] theorem State.respond_resetHeld (s : State) (k : FaultKind) : (s.respond k).resetHeld = s.resetHeld := (s.respond_noticesOnly k).resetHeld
@[simp] theorem State.respond_rate (s : State) (k : FaultKind) : (s.respond k).rate = s.rate := (s.respond_noticesOnly k).rate
@[simp] theorem State.respond_rx (s : State) (k : FaultKind) : (s.respond k).rx = s.rx := (s.respond_noticesOnly k).rx
@[simp] theorem State.respond_port (s : State) (k : FaultKind) : (s.respond k).port = s.port := (s.respond_noticesOnly k).port
@[simp] theorem State.respond_time (s : State) (k : FaultKind) : (s.respond k).time = s.time := (s.respond_noticesOnly k).time
@[simp] theorem State.respond_cap (s : State) (k : FaultKind) : (s.respond k).cap = s.cap := (s.respond_noticesOnly k).cap
@[simp] theorem State.respond_addr (s : State) (k : FaultKind) : (s.respond k).addr = s.addr := (s.respond_noticesOnly k).addr
@[simp] theorem State.respond_owner (s : State) (k : FaultKind) : (s.respond k).owner = s.owner := (s.respond_noticesOnly k).owner
@[simp] theorem State.respond_cfg (s : State) (k : FaultKind) : (s.respond k).cfg = s.cfg := (s.respond_noticesOnly k).cfg
@[simp] theorem State.respond_choices (s : State) (k : FaultKind) : (s.respond k).choices = s.choices := (s.respond_noticesOnly k).choices
@[simp] theorem State.respond_pending (s : State) (k : FaultKind) : (s.respond k).pending = s.pending := (s.respond_noticesOnly k).pending
@[simp] theorem State.respond_out_table (s : State) (k : FaultKind) : (s.respond k).out.table = s.out.table := (s.respond_noticesOnly k).out_table
@[simp] theorem State.respond_notices_outstanding (s : State) (k : FaultKind) : (s.respond k).notices.outstanding = s.notices.outstanding := (s.respond_noticesOnly k).notices_outstanding
@[simp] theorem State.respond_faults_active (s : State) (k : FaultKind) : (s.respond k).faults.active = s.faults.active := (s.respond_noticesOnly k).faults_active
@[simp] theorem State.respond_sched_curSlot (s : State) (k : FaultKind) : (s.respond k).sched.curSlot = s.sched.curSlot := (s.respond_noticesOnly k).sched_curSlot
@[simp] theorem State.respond_sched_free (s : State) (k : FaultKind) : (s.respond k).sched.free = s.sched.free := (s.respond_noticesOnly k).sched_free
@[simp] theorem State.respond_sched_wheel (s : State) (k : FaultKind) : (s.respond k).sched.wheel = s.sched.wheel := (s.respond_noticesOnly k).sched_wheel

@[simp] theorem State.offerNotice_resetHeld (s : State) (b : NoticeBody) : (s.offerNotice b).resetHeld = s.resetHeld := (s.offerNotice_noticesOnly b).resetHeld
@[simp] theorem State.offerNotice_rate (s : State) (b : NoticeBody) : (s.offerNotice b).rate = s.rate := (s.offerNotice_noticesOnly b).rate
@[simp] theorem State.offerNotice_rx (s : State) (b : NoticeBody) : (s.offerNotice b).rx = s.rx := (s.offerNotice_noticesOnly b).rx
@[simp] theorem State.offerNotice_port (s : State) (b : NoticeBody) : (s.offerNotice b).port = s.port := (s.offerNotice_noticesOnly b).port
@[simp] theorem State.offerNotice_time (s : State) (b : NoticeBody) : (s.offerNotice b).time = s.time := (s.offerNotice_noticesOnly b).time
@[simp] theorem State.offerNotice_cap (s : State) (b : NoticeBody) : (s.offerNotice b).cap = s.cap := (s.offerNotice_noticesOnly b).cap
@[simp] theorem State.offerNotice_addr (s : State) (b : NoticeBody) : (s.offerNotice b).addr = s.addr := (s.offerNotice_noticesOnly b).addr
@[simp] theorem State.offerNotice_owner (s : State) (b : NoticeBody) : (s.offerNotice b).owner = s.owner := (s.offerNotice_noticesOnly b).owner
@[simp] theorem State.offerNotice_cfg (s : State) (b : NoticeBody) : (s.offerNotice b).cfg = s.cfg := (s.offerNotice_noticesOnly b).cfg
@[simp] theorem State.offerNotice_choices (s : State) (b : NoticeBody) : (s.offerNotice b).choices = s.choices := (s.offerNotice_noticesOnly b).choices
@[simp] theorem State.offerNotice_pending (s : State) (b : NoticeBody) : (s.offerNotice b).pending = s.pending := (s.offerNotice_noticesOnly b).pending
@[simp] theorem State.offerNotice_out_table (s : State) (b : NoticeBody) : (s.offerNotice b).out.table = s.out.table := (s.offerNotice_noticesOnly b).out_table
@[simp] theorem State.offerNotice_notices_outstanding (s : State) (b : NoticeBody) : (s.offerNotice b).notices.outstanding = s.notices.outstanding := (s.offerNotice_noticesOnly b).notices_outstanding
@[simp] theorem State.offerNotice_faults_active (s : State) (b : NoticeBody) : (s.offerNotice b).faults.active = s.faults.active := (s.offerNotice_noticesOnly b).faults_active
@[simp] theorem State.offerNotice_sched_curSlot (s : State) (b : NoticeBody) : (s.offerNotice b).sched.curSlot = s.sched.curSlot := (s.offerNotice_noticesOnly b).sched_curSlot
@[simp] theorem State.offerNotice_sched_free (s : State) (b : NoticeBody) : (s.offerNotice b).sched.free = s.sched.free := (s.offerNotice_noticesOnly b).sched_free
@[simp] theorem State.offerNotice_sched_wheel (s : State) (b : NoticeBody) : (s.offerNotice b).sched.wheel = s.sched.wheel := (s.offerNotice_noticesOnly b).sched_wheel

@[simp] theorem State.raise_resetHeld (s : State) (k : FaultKind) (time : Ticks) : (s.raise k time).resetHeld = s.resetHeld := (s.raise_noticesOnly k time).resetHeld
@[simp] theorem State.raise_rate (s : State) (k : FaultKind) (time : Ticks) : (s.raise k time).rate = s.rate := (s.raise_noticesOnly k time).rate
@[simp] theorem State.raise_rx (s : State) (k : FaultKind) (time : Ticks) : (s.raise k time).rx = s.rx := (s.raise_noticesOnly k time).rx
@[simp] theorem State.raise_port (s : State) (k : FaultKind) (time : Ticks) : (s.raise k time).port = s.port := (s.raise_noticesOnly k time).port
@[simp] theorem State.raise_time (s : State) (k : FaultKind) (time : Ticks) : (s.raise k time).time = s.time := (s.raise_noticesOnly k time).time
@[simp] theorem State.raise_cap (s : State) (k : FaultKind) (time : Ticks) : (s.raise k time).cap = s.cap := (s.raise_noticesOnly k time).cap
@[simp] theorem State.raise_addr (s : State) (k : FaultKind) (time : Ticks) : (s.raise k time).addr = s.addr := (s.raise_noticesOnly k time).addr
@[simp] theorem State.raise_owner (s : State) (k : FaultKind) (time : Ticks) : (s.raise k time).owner = s.owner := (s.raise_noticesOnly k time).owner
@[simp] theorem State.raise_cfg (s : State) (k : FaultKind) (time : Ticks) : (s.raise k time).cfg = s.cfg := (s.raise_noticesOnly k time).cfg
@[simp] theorem State.raise_choices (s : State) (k : FaultKind) (time : Ticks) : (s.raise k time).choices = s.choices := (s.raise_noticesOnly k time).choices
@[simp] theorem State.raise_pending (s : State) (k : FaultKind) (time : Ticks) : (s.raise k time).pending = s.pending := (s.raise_noticesOnly k time).pending
@[simp] theorem State.raise_out_table (s : State) (k : FaultKind) (time : Ticks) : (s.raise k time).out.table = s.out.table := (s.raise_noticesOnly k time).out_table
@[simp] theorem State.raise_notices_outstanding (s : State) (k : FaultKind) (time : Ticks) : (s.raise k time).notices.outstanding = s.notices.outstanding := (s.raise_noticesOnly k time).notices_outstanding
@[simp] theorem State.raise_faults_active (s : State) (k : FaultKind) (time : Ticks) : (s.raise k time).faults.active = s.faults.active := (s.raise_noticesOnly k time).faults_active
@[simp] theorem State.raise_sched_curSlot (s : State) (k : FaultKind) (time : Ticks) : (s.raise k time).sched.curSlot = s.sched.curSlot := (s.raise_noticesOnly k time).sched_curSlot
@[simp] theorem State.raise_sched_free (s : State) (k : FaultKind) (time : Ticks) : (s.raise k time).sched.free = s.sched.free := (s.raise_noticesOnly k time).sched_free
@[simp] theorem State.raise_sched_wheel (s : State) (k : FaultKind) (time : Ticks) : (s.raise k time).sched.wheel = s.sched.wheel := (s.raise_noticesOnly k time).sched_wheel

@[simp] theorem State.offerCompletion_resetHeld (s : State) (r : ActionRecord) (o : ActionOutcome) (time : Ticks) : (s.offerCompletion r o time).resetHeld = s.resetHeld := (s.offerCompletion_noticesOnly r o time).resetHeld
@[simp] theorem State.offerCompletion_rate (s : State) (r : ActionRecord) (o : ActionOutcome) (time : Ticks) : (s.offerCompletion r o time).rate = s.rate := (s.offerCompletion_noticesOnly r o time).rate
@[simp] theorem State.offerCompletion_rx (s : State) (r : ActionRecord) (o : ActionOutcome) (time : Ticks) : (s.offerCompletion r o time).rx = s.rx := (s.offerCompletion_noticesOnly r o time).rx
@[simp] theorem State.offerCompletion_port (s : State) (r : ActionRecord) (o : ActionOutcome) (time : Ticks) : (s.offerCompletion r o time).port = s.port := (s.offerCompletion_noticesOnly r o time).port
@[simp] theorem State.offerCompletion_time (s : State) (r : ActionRecord) (o : ActionOutcome) (time : Ticks) : (s.offerCompletion r o time).time = s.time := (s.offerCompletion_noticesOnly r o time).time
@[simp] theorem State.offerCompletion_cap (s : State) (r : ActionRecord) (o : ActionOutcome) (time : Ticks) : (s.offerCompletion r o time).cap = s.cap := (s.offerCompletion_noticesOnly r o time).cap
@[simp] theorem State.offerCompletion_addr (s : State) (r : ActionRecord) (o : ActionOutcome) (time : Ticks) : (s.offerCompletion r o time).addr = s.addr := (s.offerCompletion_noticesOnly r o time).addr
@[simp] theorem State.offerCompletion_owner (s : State) (r : ActionRecord) (o : ActionOutcome) (time : Ticks) : (s.offerCompletion r o time).owner = s.owner := (s.offerCompletion_noticesOnly r o time).owner
@[simp] theorem State.offerCompletion_cfg (s : State) (r : ActionRecord) (o : ActionOutcome) (time : Ticks) : (s.offerCompletion r o time).cfg = s.cfg := (s.offerCompletion_noticesOnly r o time).cfg
@[simp] theorem State.offerCompletion_choices (s : State) (r : ActionRecord) (o : ActionOutcome) (time : Ticks) : (s.offerCompletion r o time).choices = s.choices := (s.offerCompletion_noticesOnly r o time).choices
@[simp] theorem State.offerCompletion_pending (s : State) (r : ActionRecord) (o : ActionOutcome) (time : Ticks) : (s.offerCompletion r o time).pending = s.pending := (s.offerCompletion_noticesOnly r o time).pending
@[simp] theorem State.offerCompletion_out_table (s : State) (r : ActionRecord) (o : ActionOutcome) (time : Ticks) : (s.offerCompletion r o time).out.table = s.out.table := (s.offerCompletion_noticesOnly r o time).out_table
@[simp] theorem State.offerCompletion_notices_outstanding (s : State) (r : ActionRecord) (o : ActionOutcome) (time : Ticks) : (s.offerCompletion r o time).notices.outstanding = s.notices.outstanding := (s.offerCompletion_noticesOnly r o time).notices_outstanding
@[simp] theorem State.offerCompletion_faults_active (s : State) (r : ActionRecord) (o : ActionOutcome) (time : Ticks) : (s.offerCompletion r o time).faults.active = s.faults.active := (s.offerCompletion_noticesOnly r o time).faults_active
@[simp] theorem State.offerCompletion_sched_curSlot (s : State) (r : ActionRecord) (o : ActionOutcome) (time : Ticks) : (s.offerCompletion r o time).sched.curSlot = s.sched.curSlot := (s.offerCompletion_noticesOnly r o time).sched_curSlot
@[simp] theorem State.offerCompletion_sched_free (s : State) (r : ActionRecord) (o : ActionOutcome) (time : Ticks) : (s.offerCompletion r o time).sched.free = s.sched.free := (s.offerCompletion_noticesOnly r o time).sched_free
@[simp] theorem State.offerCompletion_sched_wheel (s : State) (r : ActionRecord) (o : ActionOutcome) (time : Ticks) : (s.offerCompletion r o time).sched.wheel = s.sched.wheel := (s.offerCompletion_noticesOnly r o time).sched_wheel

@[simp] theorem State.evalLineErrors_resetHeld (s : State) : s.evalLineErrors.resetHeld = s.resetHeld := by
  unfold State.evalLineErrors; split_ifs <;> simp
@[simp] theorem State.evalLineErrors_rate (s : State) : s.evalLineErrors.rate = s.rate := by
  unfold State.evalLineErrors; split_ifs <;> simp
@[simp] theorem State.evalLineErrors_rx (s : State) : s.evalLineErrors.rx = s.rx := by
  unfold State.evalLineErrors; split_ifs <;> simp
@[simp] theorem State.evalLineErrors_port (s : State) : s.evalLineErrors.port = s.port := by
  unfold State.evalLineErrors; split_ifs <;> simp
@[simp] theorem State.evalLineErrors_time (s : State) : s.evalLineErrors.time = s.time := by
  unfold State.evalLineErrors; split_ifs <;> simp
@[simp] theorem State.evalLineErrors_cap (s : State) : s.evalLineErrors.cap = s.cap := by
  unfold State.evalLineErrors; split_ifs <;> simp
@[simp] theorem State.evalLineErrors_addr (s : State) : s.evalLineErrors.addr = s.addr := by
  unfold State.evalLineErrors; split_ifs <;> simp
@[simp] theorem State.evalLineErrors_owner (s : State) : s.evalLineErrors.owner = s.owner := by
  unfold State.evalLineErrors; split_ifs <;> simp
@[simp] theorem State.evalLineErrors_cfg (s : State) : s.evalLineErrors.cfg = s.cfg := by
  unfold State.evalLineErrors; split_ifs <;> simp
@[simp] theorem State.evalLineErrors_choices (s : State) : s.evalLineErrors.choices = s.choices := by
  unfold State.evalLineErrors; split_ifs <;> simp
@[simp] theorem State.evalLineErrors_pending (s : State) : s.evalLineErrors.pending = s.pending := by
  unfold State.evalLineErrors; split_ifs <;> simp
@[simp] theorem State.evalLineErrors_out_table (s : State) : s.evalLineErrors.out.table = s.out.table := by
  unfold State.evalLineErrors; split_ifs <;> simp
@[simp] theorem State.evalLineErrors_notices_outstanding (s : State) : s.evalLineErrors.notices.outstanding = s.notices.outstanding := by
  unfold State.evalLineErrors; split_ifs <;> simp
@[simp] theorem State.evalLineErrors_sched_curSlot (s : State) : s.evalLineErrors.sched.curSlot = s.sched.curSlot := by
  unfold State.evalLineErrors; split_ifs <;> simp
@[simp] theorem State.evalLineErrors_sched_free (s : State) : s.evalLineErrors.sched.free = s.sched.free := by
  unfold State.evalLineErrors; split_ifs <;> simp
@[simp] theorem State.evalLineErrors_sched_wheel (s : State) : s.evalLineErrors.sched.wheel = s.sched.wheel := by
  unfold State.evalLineErrors; split_ifs <;> simp

/-! ## The pool and the wheel: only the Scheduler changes -/

@[simp] theorem State.unlink_resetHeld (s : State) (id : Nat) : (s.unlink id).resetHeld = s.resetHeld := rfl
@[simp] theorem State.unlink_rate (s : State) (id : Nat) : (s.unlink id).rate = s.rate := rfl
@[simp] theorem State.unlink_rx (s : State) (id : Nat) : (s.unlink id).rx = s.rx := rfl
@[simp] theorem State.unlink_port (s : State) (id : Nat) : (s.unlink id).port = s.port := rfl
@[simp] theorem State.unlink_time (s : State) (id : Nat) : (s.unlink id).time = s.time := rfl
@[simp] theorem State.unlink_out (s : State) (id : Nat) : (s.unlink id).out = s.out := rfl
@[simp] theorem State.unlink_cap (s : State) (id : Nat) : (s.unlink id).cap = s.cap := rfl
@[simp] theorem State.unlink_faults (s : State) (id : Nat) : (s.unlink id).faults = s.faults := rfl
@[simp] theorem State.unlink_notices (s : State) (id : Nat) : (s.unlink id).notices = s.notices := rfl
@[simp] theorem State.unlink_addr (s : State) (id : Nat) : (s.unlink id).addr = s.addr := rfl
@[simp] theorem State.unlink_owner (s : State) (id : Nat) : (s.unlink id).owner = s.owner := rfl
@[simp] theorem State.unlink_cfg (s : State) (id : Nat) : (s.unlink id).cfg = s.cfg := rfl
@[simp] theorem State.unlink_choices (s : State) (id : Nat) : (s.unlink id).choices = s.choices := rfl
@[simp] theorem State.unlink_pending (s : State) (id : Nat) : (s.unlink id).pending = s.pending := rfl
@[simp] theorem State.unlink_sched_state (s : State) (id : Nat) : (s.unlink id).sched.state = s.sched.state := rfl
@[simp] theorem State.unlink_sched_curSlot (s : State) (id : Nat) : (s.unlink id).sched.curSlot = s.sched.curSlot := rfl
@[simp] theorem State.unlink_sched_free (s : State) (id : Nat) : (s.unlink id).sched.free = s.sched.free := rfl

@[simp] theorem State.freeRecord_resetHeld (s : State) (id : Nat) : (s.freeRecord id).resetHeld = s.resetHeld := rfl
@[simp] theorem State.freeRecord_rate (s : State) (id : Nat) : (s.freeRecord id).rate = s.rate := rfl
@[simp] theorem State.freeRecord_rx (s : State) (id : Nat) : (s.freeRecord id).rx = s.rx := rfl
@[simp] theorem State.freeRecord_port (s : State) (id : Nat) : (s.freeRecord id).port = s.port := rfl
@[simp] theorem State.freeRecord_time (s : State) (id : Nat) : (s.freeRecord id).time = s.time := rfl
@[simp] theorem State.freeRecord_out (s : State) (id : Nat) : (s.freeRecord id).out = s.out := rfl
@[simp] theorem State.freeRecord_cap (s : State) (id : Nat) : (s.freeRecord id).cap = s.cap := rfl
@[simp] theorem State.freeRecord_faults (s : State) (id : Nat) : (s.freeRecord id).faults = s.faults := rfl
@[simp] theorem State.freeRecord_notices (s : State) (id : Nat) : (s.freeRecord id).notices = s.notices := rfl
@[simp] theorem State.freeRecord_addr (s : State) (id : Nat) : (s.freeRecord id).addr = s.addr := rfl
@[simp] theorem State.freeRecord_owner (s : State) (id : Nat) : (s.freeRecord id).owner = s.owner := rfl
@[simp] theorem State.freeRecord_cfg (s : State) (id : Nat) : (s.freeRecord id).cfg = s.cfg := rfl
@[simp] theorem State.freeRecord_choices (s : State) (id : Nat) : (s.freeRecord id).choices = s.choices := rfl
@[simp] theorem State.freeRecord_pending (s : State) (id : Nat) : (s.freeRecord id).pending = s.pending := rfl
@[simp] theorem State.freeRecord_sched_state (s : State) (id : Nat) : (s.freeRecord id).sched.state = s.sched.state := rfl
@[simp] theorem State.freeRecord_sched_curSlot (s : State) (id : Nat) : (s.freeRecord id).sched.curSlot = s.sched.curSlot := rfl

@[simp] theorem State.clearRecords_resetHeld (s : State) : s.clearRecords.resetHeld = s.resetHeld := rfl
@[simp] theorem State.clearRecords_rate (s : State) : s.clearRecords.rate = s.rate := rfl
@[simp] theorem State.clearRecords_rx (s : State) : s.clearRecords.rx = s.rx := rfl
@[simp] theorem State.clearRecords_port (s : State) : s.clearRecords.port = s.port := rfl
@[simp] theorem State.clearRecords_time (s : State) : s.clearRecords.time = s.time := rfl
@[simp] theorem State.clearRecords_out (s : State) : s.clearRecords.out = s.out := rfl
@[simp] theorem State.clearRecords_cap (s : State) : s.clearRecords.cap = s.cap := rfl
@[simp] theorem State.clearRecords_faults (s : State) : s.clearRecords.faults = s.faults := rfl
@[simp] theorem State.clearRecords_notices (s : State) : s.clearRecords.notices = s.notices := rfl
@[simp] theorem State.clearRecords_addr (s : State) : s.clearRecords.addr = s.addr := rfl
@[simp] theorem State.clearRecords_owner (s : State) : s.clearRecords.owner = s.owner := rfl
@[simp] theorem State.clearRecords_cfg (s : State) : s.clearRecords.cfg = s.cfg := rfl
@[simp] theorem State.clearRecords_choices (s : State) : s.clearRecords.choices = s.choices := rfl
@[simp] theorem State.clearRecords_pending (s : State) : s.clearRecords.pending = s.pending := rfl
@[simp] theorem State.clearRecords_sched_state (s : State) : s.clearRecords.sched.state = s.sched.state := rfl
@[simp] theorem State.clearRecords_sched_curSlot (s : State) : s.clearRecords.sched.curSlot = s.sched.curSlot := rfl

/-- R71: what a link can do. -/
theorem State.linkRecord_eq_some {s t : State} {fill : Nat → ActionRecord} (h : s.linkRecord fill = some t) :
    ∃ id rest, s.sched.free = id :: rest ∧ s.listHasPlace (fill id).due = true ∧
      t = s.setSched { s.sched with free := rest, wheel := s.sched.wheel ++ [fill id] } := by
  unfold State.linkRecord at h
  split at h
  · cases h
  · rename_i id rest hf
    split at h
    · rename_i hp
      exact ⟨id, rest, hf, hp, (Option.some.inj h).symm⟩
    · cases h

/-- R71: when a link fails. -/
theorem State.linkRecord_eq_none {s : State} {fill : Nat → ActionRecord} (h : s.linkRecord fill = none) :
    s.sched.free = [] ∨ ∃ id rest, s.sched.free = id :: rest ∧ s.listHasPlace (fill id).due = false := by
  unfold State.linkRecord at h
  split at h
  · exact .inl ‹_›
  · rename_i id rest hf
    split at h
    · cases h
    · rename_i hp
      exact .inr ⟨id, rest, hf, by simpa using hp⟩

/-- R72: what a relink can do. -/
theorem State.relink_eq_some {s t : State} {r : ActionRecord} {due : SlotNo} (h : s.relink r due = some t) :
    (s.unlink r.id).listHasPlace due = true ∧
      t = (s.unlink r.id).setSched { (s.unlink r.id).sched with
            wheel := (s.unlink r.id).sched.wheel ++ [{ r with due := due }] } := by
  unfold State.relink at h
  dsimp only at h
  split at h
  · exact ⟨‹_›, (Option.some.inj h).symm⟩
  · cases h

/-- The record that a search finds is linked and has the number sought. -/
theorem State.findRecord_eq_some {s : State} {id : Nat} {r : ActionRecord} (h : s.findRecord id = some r) :
    r ∈ s.sched.wheel ∧ r.id = id := by
  have := List.find?_some h
  exact ⟨List.mem_of_find?_eq_some h, by simpa using this⟩

/-! ## Releases, walks and time steps -/

/-- Changing the Scheduler alone is an effect. -/
theorem State.setSched_effectsOnly (s : State) (v : Scheduler) : s.EffectsOnly (s.setSched v) := by constructor <;> rfl

theorem State.freeRecord_effectsOnly (s : State) (id : Nat) : s.EffectsOnly (s.freeRecord id) := by constructor <;> rfl

theorem State.relink_effectsOnly {s t : State} {r : ActionRecord} {due : SlotNo} (h : s.relink r due = some t) :
    s.EffectsOnly t := by
  rw [(State.relink_eq_some h).2]; constructor <;> rfl

theorem State.linkRecord_effectsOnly {s t : State} {fill : Nat → ActionRecord} (h : s.linkRecord fill = some t) :
    s.EffectsOnly t := by
  obtain ⟨id, rest, -, -, rfl⟩ := State.linkRecord_eq_some h
  exact s.setSched_effectsOnly _

theorem State.drive_effectsOnly (s : State) (r : ActionRecord) (o : ActionOutcome) : s.EffectsOnly (s.drive r o) := by
  cases o <;> constructor <;> rfl

theorem State.releaseOne_effectsOnly (s : State) (time : Ticks) (r : ActionRecord) :
    s.EffectsOnly (s.releaseOne time r) := by
  unfold State.releaseOne
  dsimp only
  split
  · exact ((s.drive_effectsOnly _ _).trans (State.freeRecord_effectsOnly _ _)).trans
      (State.offerCompletion_noticesOnly _ _ _ _).toEffectsOnly
  · split
    · rename_i h
      exact ((s.drive_effectsOnly _ _).trans (State.relink_effectsOnly h)).trans
        (State.offerCompletion_noticesOnly _ _ _ _).toEffectsOnly
    · exact ((((s.drive_effectsOnly _ _).trans (State.freeRecord_effectsOnly _ _)).trans
        (State.offerCompletion_noticesOnly _ _ _ _).toEffectsOnly).trans
        (State.offerCompletion_noticesOnly _ _ _ _).toEffectsOnly).trans (State.raise_noticesOnly _ _ _).toEffectsOnly

theorem State.releaseTurn_effectsOnly (time : Ticks) (s : State) (id : Nat) :
    s.EffectsOnly (State.releaseTurn time s id) := by
  unfold State.releaseTurn
  split
  · exact s.releaseOne_effectsOnly _ _
  · exact .refl s

theorem State.walkSlot_effectsOnly (s : State) (n : SlotNo) (time : Ticks) : s.EffectsOnly (s.walkSlot n time) :=
  foldl_inv _ (fun t => s.EffectsOnly t) (fun _ _ h => h.trans (State.releaseTurn_effectsOnly _ _ _)) _ _ (.refl s)

theorem State.setSlot_effectsOnly (s : State) (n : SlotNo) : s.EffectsOnly (s.setSlot n) := s.setSched_effectsOnly _

theorem State.slotExpiry_effectsOnly (s : State) (n : SlotNo) (time : Ticks) : s.EffectsOnly (s.slotExpiry n time) := by
  unfold State.slotExpiry
  dsimp only
  split
  · exact s.setSlot_effectsOnly n
  all_goals exact (s.setSlot_effectsOnly n).trans (State.walkSlot_effectsOnly _ _ _)

theorem offerInStep_noticesOnly (p : StepState) (r : ActionRecord) (o : ActionOutcome) (time : Ticks) :
    p.1.NoticesOnly (offerInStep p r o time).1 := by
  unfold offerInStep
  dsimp only
  split
  · exact (State.offerCompletion_noticesOnly _ _ _ _).trans (State.raise_noticesOnly _ _ _)
  · exact State.offerCompletion_noticesOnly _ _ _ _

theorem passOne_effectsOnly (catchUp : Bool) (b : SlotNo) (time : Ticks) (p : StepState) (r : ActionRecord) :
    p.1.EffectsOnly (passOne catchUp b time p r).1 := by
  have offered : ∀ (t : State) (r' : ActionRecord) (o' : ActionOutcome),
      t.EffectsOnly (offerInStep (t, p.2) r' o' time).1 :=
    fun t r' o' => (offerInStep_noticesOnly (t, p.2) r' o' time).toEffectsOnly
  have freed : ∀ o r' o', p.1.EffectsOnly (offerInStep ((p.1.drive r o).freeRecord r.id, p.2) r' o' time).1 :=
    fun o r' o' => ((p.1.drive_effectsOnly r o).trans (State.freeRecord_effectsOnly _ _)).trans (offered _ r' o')
  unfold passOne
  dsimp only
  generalize (if catchUp = true then p.1.releaseOutcome true r else ActionOutcome.expired) = o
  split
  · exact freed o _ _
  · split
    · split
      · exact freed o _ _
      · exact (freed o _ _).trans (offerInStep_noticesOnly _ _ _ _).toEffectsOnly
    · split
      · rename_i h
        exact ((p.1.drive_effectsOnly r o).trans (State.relink_effectsOnly h)).trans (offered _ _ _)
      · exact ((freed o _ _).trans (offerInStep_noticesOnly _ _ _ _).toEffectsOnly).trans
          (State.raise_noticesOnly _ _ _).toEffectsOnly

theorem passTurn_effectsOnly (catchUp : Bool) (b : SlotNo) (time : Ticks) (p : StepState) (id : Nat) :
    p.1.EffectsOnly (passTurn catchUp b time p id).1 := by
  unfold passTurn
  split
  · exact passOne_effectsOnly _ _ _ _ _
  · exact .refl p.1

theorem foldl_passTurn_effectsOnly (catchUp : Bool) (b : SlotNo) (time : Ticks) (l : List Nat) (p : StepState) :
    p.1.EffectsOnly (l.foldl (passTurn catchUp b time) p).1 :=
  foldl_inv _ (fun q : StepState => p.1.EffectsOnly q.1) (fun _ _ h => h.trans (passTurn_effectsOnly _ _ _ _ _)) _ _
    (.refl p.1)

theorem State.timeStep_effectsOnly (s : State) (b : SlotNo) (time : Ticks) : s.EffectsOnly (s.timeStep b time) := by
  unfold State.timeStep
  dsimp only
  split
  · exact s.setSlot_effectsOnly b
  all_goals
    split
    · exact s.setSlot_effectsOnly b
    · exact ((s.setSlot_effectsOnly b).trans (foldl_passTurn_effectsOnly _ _ _ _ (s.setSlot b, false))).trans
        (State.walkSlot_effectsOnly _ _ _)

theorem State.slotMoved_effectsOnly (s : State) : s.EffectsOnly s.slotMoved := by
  unfold State.slotMoved
  split
  · exact .refl s
  · exact s.timeStep_effectsOnly _ _

@[simp] theorem State.slotExpiry_resetHeld (s : State) (n : SlotNo) (time : Ticks) : (s.slotExpiry n time).resetHeld = s.resetHeld := (s.slotExpiry_effectsOnly n time).resetHeld
@[simp] theorem State.slotExpiry_rate (s : State) (n : SlotNo) (time : Ticks) : (s.slotExpiry n time).rate = s.rate := (s.slotExpiry_effectsOnly n time).rate
@[simp] theorem State.slotExpiry_rx (s : State) (n : SlotNo) (time : Ticks) : (s.slotExpiry n time).rx = s.rx := (s.slotExpiry_effectsOnly n time).rx
@[simp] theorem State.slotExpiry_port (s : State) (n : SlotNo) (time : Ticks) : (s.slotExpiry n time).port = s.port := (s.slotExpiry_effectsOnly n time).port
@[simp] theorem State.slotExpiry_time (s : State) (n : SlotNo) (time : Ticks) : (s.slotExpiry n time).time = s.time := (s.slotExpiry_effectsOnly n time).time
@[simp] theorem State.slotExpiry_cap (s : State) (n : SlotNo) (time : Ticks) : (s.slotExpiry n time).cap = s.cap := (s.slotExpiry_effectsOnly n time).cap
@[simp] theorem State.slotExpiry_addr (s : State) (n : SlotNo) (time : Ticks) : (s.slotExpiry n time).addr = s.addr := (s.slotExpiry_effectsOnly n time).addr
@[simp] theorem State.slotExpiry_owner (s : State) (n : SlotNo) (time : Ticks) : (s.slotExpiry n time).owner = s.owner := (s.slotExpiry_effectsOnly n time).owner
@[simp] theorem State.slotExpiry_cfg (s : State) (n : SlotNo) (time : Ticks) : (s.slotExpiry n time).cfg = s.cfg := (s.slotExpiry_effectsOnly n time).cfg
@[simp] theorem State.slotExpiry_choices (s : State) (n : SlotNo) (time : Ticks) : (s.slotExpiry n time).choices = s.choices := (s.slotExpiry_effectsOnly n time).choices
@[simp] theorem State.slotExpiry_pending (s : State) (n : SlotNo) (time : Ticks) : (s.slotExpiry n time).pending = s.pending := (s.slotExpiry_effectsOnly n time).pending
@[simp] theorem State.slotExpiry_out_table (s : State) (n : SlotNo) (time : Ticks) : (s.slotExpiry n time).out.table = s.out.table := (s.slotExpiry_effectsOnly n time).out_table
@[simp] theorem State.slotExpiry_notices_outstanding (s : State) (n : SlotNo) (time : Ticks) : (s.slotExpiry n time).notices.outstanding = s.notices.outstanding := (s.slotExpiry_effectsOnly n time).notices_outstanding
@[simp] theorem State.slotExpiry_faults_active (s : State) (n : SlotNo) (time : Ticks) : (s.slotExpiry n time).faults.active = s.faults.active := (s.slotExpiry_effectsOnly n time).faults_active

@[simp] theorem State.walkSlot_resetHeld (s : State) (n : SlotNo) (time : Ticks) : (s.walkSlot n time).resetHeld = s.resetHeld := (s.walkSlot_effectsOnly n time).resetHeld
@[simp] theorem State.walkSlot_rate (s : State) (n : SlotNo) (time : Ticks) : (s.walkSlot n time).rate = s.rate := (s.walkSlot_effectsOnly n time).rate
@[simp] theorem State.walkSlot_rx (s : State) (n : SlotNo) (time : Ticks) : (s.walkSlot n time).rx = s.rx := (s.walkSlot_effectsOnly n time).rx
@[simp] theorem State.walkSlot_port (s : State) (n : SlotNo) (time : Ticks) : (s.walkSlot n time).port = s.port := (s.walkSlot_effectsOnly n time).port
@[simp] theorem State.walkSlot_time (s : State) (n : SlotNo) (time : Ticks) : (s.walkSlot n time).time = s.time := (s.walkSlot_effectsOnly n time).time
@[simp] theorem State.walkSlot_cap (s : State) (n : SlotNo) (time : Ticks) : (s.walkSlot n time).cap = s.cap := (s.walkSlot_effectsOnly n time).cap
@[simp] theorem State.walkSlot_addr (s : State) (n : SlotNo) (time : Ticks) : (s.walkSlot n time).addr = s.addr := (s.walkSlot_effectsOnly n time).addr
@[simp] theorem State.walkSlot_owner (s : State) (n : SlotNo) (time : Ticks) : (s.walkSlot n time).owner = s.owner := (s.walkSlot_effectsOnly n time).owner
@[simp] theorem State.walkSlot_cfg (s : State) (n : SlotNo) (time : Ticks) : (s.walkSlot n time).cfg = s.cfg := (s.walkSlot_effectsOnly n time).cfg
@[simp] theorem State.walkSlot_choices (s : State) (n : SlotNo) (time : Ticks) : (s.walkSlot n time).choices = s.choices := (s.walkSlot_effectsOnly n time).choices
@[simp] theorem State.walkSlot_pending (s : State) (n : SlotNo) (time : Ticks) : (s.walkSlot n time).pending = s.pending := (s.walkSlot_effectsOnly n time).pending
@[simp] theorem State.walkSlot_out_table (s : State) (n : SlotNo) (time : Ticks) : (s.walkSlot n time).out.table = s.out.table := (s.walkSlot_effectsOnly n time).out_table
@[simp] theorem State.walkSlot_notices_outstanding (s : State) (n : SlotNo) (time : Ticks) : (s.walkSlot n time).notices.outstanding = s.notices.outstanding := (s.walkSlot_effectsOnly n time).notices_outstanding
@[simp] theorem State.walkSlot_faults_active (s : State) (n : SlotNo) (time : Ticks) : (s.walkSlot n time).faults.active = s.faults.active := (s.walkSlot_effectsOnly n time).faults_active

@[simp] theorem State.timeStep_resetHeld (s : State) (b : SlotNo) (time : Ticks) : (s.timeStep b time).resetHeld = s.resetHeld := (s.timeStep_effectsOnly b time).resetHeld
@[simp] theorem State.timeStep_rate (s : State) (b : SlotNo) (time : Ticks) : (s.timeStep b time).rate = s.rate := (s.timeStep_effectsOnly b time).rate
@[simp] theorem State.timeStep_rx (s : State) (b : SlotNo) (time : Ticks) : (s.timeStep b time).rx = s.rx := (s.timeStep_effectsOnly b time).rx
@[simp] theorem State.timeStep_port (s : State) (b : SlotNo) (time : Ticks) : (s.timeStep b time).port = s.port := (s.timeStep_effectsOnly b time).port
@[simp] theorem State.timeStep_time (s : State) (b : SlotNo) (time : Ticks) : (s.timeStep b time).time = s.time := (s.timeStep_effectsOnly b time).time
@[simp] theorem State.timeStep_cap (s : State) (b : SlotNo) (time : Ticks) : (s.timeStep b time).cap = s.cap := (s.timeStep_effectsOnly b time).cap
@[simp] theorem State.timeStep_addr (s : State) (b : SlotNo) (time : Ticks) : (s.timeStep b time).addr = s.addr := (s.timeStep_effectsOnly b time).addr
@[simp] theorem State.timeStep_owner (s : State) (b : SlotNo) (time : Ticks) : (s.timeStep b time).owner = s.owner := (s.timeStep_effectsOnly b time).owner
@[simp] theorem State.timeStep_cfg (s : State) (b : SlotNo) (time : Ticks) : (s.timeStep b time).cfg = s.cfg := (s.timeStep_effectsOnly b time).cfg
@[simp] theorem State.timeStep_choices (s : State) (b : SlotNo) (time : Ticks) : (s.timeStep b time).choices = s.choices := (s.timeStep_effectsOnly b time).choices
@[simp] theorem State.timeStep_pending (s : State) (b : SlotNo) (time : Ticks) : (s.timeStep b time).pending = s.pending := (s.timeStep_effectsOnly b time).pending
@[simp] theorem State.timeStep_out_table (s : State) (b : SlotNo) (time : Ticks) : (s.timeStep b time).out.table = s.out.table := (s.timeStep_effectsOnly b time).out_table
@[simp] theorem State.timeStep_notices_outstanding (s : State) (b : SlotNo) (time : Ticks) : (s.timeStep b time).notices.outstanding = s.notices.outstanding := (s.timeStep_effectsOnly b time).notices_outstanding
@[simp] theorem State.timeStep_faults_active (s : State) (b : SlotNo) (time : Ticks) : (s.timeStep b time).faults.active = s.faults.active := (s.timeStep_effectsOnly b time).faults_active

@[simp] theorem State.slotMoved_resetHeld (s : State) : s.slotMoved.resetHeld = s.resetHeld := (s.slotMoved_effectsOnly).resetHeld
@[simp] theorem State.slotMoved_rate (s : State) : s.slotMoved.rate = s.rate := (s.slotMoved_effectsOnly).rate
@[simp] theorem State.slotMoved_rx (s : State) : s.slotMoved.rx = s.rx := (s.slotMoved_effectsOnly).rx
@[simp] theorem State.slotMoved_port (s : State) : s.slotMoved.port = s.port := (s.slotMoved_effectsOnly).port
@[simp] theorem State.slotMoved_time (s : State) : s.slotMoved.time = s.time := (s.slotMoved_effectsOnly).time
@[simp] theorem State.slotMoved_cap (s : State) : s.slotMoved.cap = s.cap := (s.slotMoved_effectsOnly).cap
@[simp] theorem State.slotMoved_addr (s : State) : s.slotMoved.addr = s.addr := (s.slotMoved_effectsOnly).addr
@[simp] theorem State.slotMoved_owner (s : State) : s.slotMoved.owner = s.owner := (s.slotMoved_effectsOnly).owner
@[simp] theorem State.slotMoved_cfg (s : State) : s.slotMoved.cfg = s.cfg := (s.slotMoved_effectsOnly).cfg
@[simp] theorem State.slotMoved_choices (s : State) : s.slotMoved.choices = s.choices := (s.slotMoved_effectsOnly).choices
@[simp] theorem State.slotMoved_pending (s : State) : s.slotMoved.pending = s.pending := (s.slotMoved_effectsOnly).pending
@[simp] theorem State.slotMoved_out_table (s : State) : s.slotMoved.out.table = s.out.table := (s.slotMoved_effectsOnly).out_table
@[simp] theorem State.slotMoved_notices_outstanding (s : State) : s.slotMoved.notices.outstanding = s.notices.outstanding := (s.slotMoved_effectsOnly).notices_outstanding
@[simp] theorem State.slotMoved_faults_active (s : State) : s.slotMoved.faults.active = s.faults.active := (s.slotMoved_effectsOnly).faults_active

@[simp] theorem State.afterStep_zero (s : State) : s.afterStep 0 = s := rfl

theorem State.afterStep_of_ne {e : Ticks} (h : e ≠ 0) (s : State) : s.afterStep e = s.slotMoved := if_neg h

theorem State.afterStep_effectsOnly (s : State) (e : Ticks) : s.EffectsOnly (s.afterStep e) := by
  unfold State.afterStep
  split
  · exact .refl s
  · exact s.slotMoved_effectsOnly

@[simp] theorem State.releaseTurn_curSlot (time : Ticks) (s : State) (id : Nat) :
    (State.releaseTurn time s id).sched.curSlot = s.sched.curSlot := by
  unfold State.releaseTurn State.releaseOne
  dsimp only
  split
  · have hd : ∀ r o, (s.drive r o).sched = s.sched := fun r o => by cases o <;> rfl
    split
    · simp [hd]
    · split
      · rename_i h
        rw [(State.relink_eq_some h).2]; simp [hd]
      · simp [hd]
  · rfl

/-- A walk leaves the current slot number as the event set it. -/
@[simp] theorem State.walkSlot_curSlot (s : State) (n : SlotNo) (time : Ticks) :
    (s.walkSlot n time).sched.curSlot = s.sched.curSlot :=
  foldl_keeps _ (fun t : State => t.sched.curSlot) (fun _ _ => by simp) _ _

/-- R76: after a slot expiry the current slot number is the number the event carries. -/
@[simp] theorem State.slotExpiry_curSlot (s : State) (n : SlotNo) (time : Ticks) :
    (s.slotExpiry n time).sched.curSlot = n := by
  unfold State.slotExpiry; dsimp only; split <;> simp [State.setSlot]

end Sys2Proof.Machine
end

