-- ==== Sys2Proof/Laws/Port.lean ====
section
/-! SUPPORT. What the operations of the Output Port leave unchanged, and what each can do, said once. -/

namespace Sys2Proof.Machine

/-- What every placing and every transmit start keeps: all but the Output Port, the Notice Queue, HighestReported and
the count of free choices. -/
structure State.PortOnly (s t : State) : Prop where
  resetHeld : t.resetHeld = s.resetHeld
  rate : t.rate = s.rate
  rx : t.rx = s.rx
  time : t.time = s.time
  sched : t.sched = s.sched
  out : t.out = s.out
  faults : t.faults = s.faults
  addr : t.addr = s.addr
  owner : t.owner = s.owner
  cfg : t.cfg = s.cfg
  pending : t.pending = s.pending
  cap : t.cap = { s.cap with highest := t.cap.highest }

theorem State.PortOnly.refl (s : State) : s.PortOnly s := by constructor <;> rfl

theorem State.PortOnly.trans {s t u : State} (h : s.PortOnly t) (k : t.PortOnly u) : s.PortOnly u :=
  ⟨k.resetHeld.trans h.resetHeld, k.rate.trans h.rate, k.rx.trans h.rx, k.time.trans h.time, k.sched.trans h.sched, k.out.trans h.out, k.faults.trans h.faults, k.addr.trans h.addr, k.owner.trans h.owner, k.cfg.trans h.cfg, k.pending.trans h.pending,
   by rw [k.cap, h.cap]⟩

theorem State.setPort_portOnly (s : State) (v : OutputPort) : s.PortOnly (s.setPort v) := by constructor <;> rfl

theorem State.setNotices_portOnly (s : State) (v : NoticeUnit) : s.PortOnly (s.setNotices v) := by constructor <;> rfl

theorem State.setChoices_portOnly (s : State) (v : Nat) : s.PortOnly (s.setChoices v) := by constructor <;> rfl

theorem State.placeNotice_portOnly (s : State) : s.PortOnly s.placeNotice := by
  unfold State.placeNotice
  split
  · exact (s.setPort_portOnly _).trans (State.setNotices_portOnly _ _)
  · exact .refl s

theorem State.startForward_portOnly (s : State) (credit : Nat) : s.PortOnly (s.startForward credit) := by
  unfold State.startForward
  split
  · exact .refl s
  · exact s.setPort_portOnly _

theorem CaptureUnit.advanceHighest_eq (c : CaptureUnit) (m : Octet) :
    c.advanceHighest m = { c with highest := (c.advanceHighest m).highest } := by
  unfold CaptureUnit.advanceHighest
  repeat' split
  all_goals rfl

theorem State.assemble_portOnly (s : State) (d : ReplyDesc) : s.PortOnly (s.assemble d).2 := by
  unfold State.assemble
  split
  · exact .refl s
  · exact .refl s
  · exact ⟨rfl, rfl, rfl, rfl, rfl, rfl, rfl, rfl, rfl, rfl, rfl, CaptureUnit.advanceHighest_eq _ _⟩
  · exact (s.setNotices_portOnly _).trans (State.setPort_portOnly _ _)

theorem State.startReply_portOnly (s : State) : s.PortOnly s.startReply := by
  unfold State.startReply
  split
  · exact .refl s
  · exact ((s.setPort_portOnly _).trans (State.assemble_portOnly _ _)).trans (State.setPort_portOnly _ _)

theorem State.idleStart_portOnly (s : State) : s.PortOnly s.idleStart := by
  unfold State.idleStart
  split
  · split
    · exact .refl s
    · exact s.startForward_portOnly 0
    · exact s.startReply_portOnly
    · split
      · exact s.startReply_portOnly
      · dsimp only
        split
        · exact (s.setChoices_portOnly _).trans (State.startReply_portOnly _)
        · exact (s.setChoices_portOnly _).trans (State.startForward_portOnly _ _)
  all_goals exact .refl s

theorem State.settle_portOnly (s : State) : s.PortOnly s.settle :=
  (s.placeNotice_portOnly.trans (State.idleStart_portOnly _)).trans (State.placeNotice_portOnly _)

theorem State.arbitrate_portOnly (s : State) : s.PortOnly s.arbitrate := by
  unfold State.arbitrate
  split
  · exact s.setPort_portOnly _
  · exact s.startForward_portOnly 0
  · exact s.startReply_portOnly
  · split
    · exact s.startReply_portOnly
    · split
      · exact s.startReply_portOnly
      · exact s.startForward_portOnly _

@[simp] theorem State.placeNotice_resetHeld (s : State) : s.placeNotice.resetHeld = s.resetHeld := (s.placeNotice_portOnly).resetHeld
@[simp] theorem State.placeNotice_rate (s : State) : s.placeNotice.rate = s.rate := (s.placeNotice_portOnly).rate
@[simp] theorem State.placeNotice_rx (s : State) : s.placeNotice.rx = s.rx := (s.placeNotice_portOnly).rx
@[simp] theorem State.placeNotice_time (s : State) : s.placeNotice.time = s.time := (s.placeNotice_portOnly).time
@[simp] theorem State.placeNotice_sched (s : State) : s.placeNotice.sched = s.sched := (s.placeNotice_portOnly).sched
@[simp] theorem State.placeNotice_out (s : State) : s.placeNotice.out = s.out := (s.placeNotice_portOnly).out
@[simp] theorem State.placeNotice_faults (s : State) : s.placeNotice.faults = s.faults := (s.placeNotice_portOnly).faults
@[simp] theorem State.placeNotice_addr (s : State) : s.placeNotice.addr = s.addr := (s.placeNotice_portOnly).addr
@[simp] theorem State.placeNotice_owner (s : State) : s.placeNotice.owner = s.owner := (s.placeNotice_portOnly).owner
@[simp] theorem State.placeNotice_cfg (s : State) : s.placeNotice.cfg = s.cfg := (s.placeNotice_portOnly).cfg
@[simp] theorem State.placeNotice_pending (s : State) : s.placeNotice.pending = s.pending := (s.placeNotice_portOnly).pending

@[simp] theorem State.startForward_resetHeld (s : State) (credit : Nat) : (s.startForward credit).resetHeld = s.resetHeld := (s.startForward_portOnly credit).resetHeld
@[simp] theorem State.startForward_rate (s : State) (credit : Nat) : (s.startForward credit).rate = s.rate := (s.startForward_portOnly credit).rate
@[simp] theorem State.startForward_rx (s : State) (credit : Nat) : (s.startForward credit).rx = s.rx := (s.startForward_portOnly credit).rx
@[simp] theorem State.startForward_time (s : State) (credit : Nat) : (s.startForward credit).time = s.time := (s.startForward_portOnly credit).time
@[simp] theorem State.startForward_sched (s : State) (credit : Nat) : (s.startForward credit).sched = s.sched := (s.startForward_portOnly credit).sched
@[simp] theorem State.startForward_out (s : State) (credit : Nat) : (s.startForward credit).out = s.out := (s.startForward_portOnly credit).out
@[simp] theorem State.startForward_faults (s : State) (credit : Nat) : (s.startForward credit).faults = s.faults := (s.startForward_portOnly credit).faults
@[simp] theorem State.startForward_addr (s : State) (credit : Nat) : (s.startForward credit).addr = s.addr := (s.startForward_portOnly credit).addr
@[simp] theorem State.startForward_owner (s : State) (credit : Nat) : (s.startForward credit).owner = s.owner := (s.startForward_portOnly credit).owner
@[simp] theorem State.startForward_cfg (s : State) (credit : Nat) : (s.startForward credit).cfg = s.cfg := (s.startForward_portOnly credit).cfg
@[simp] theorem State.startForward_pending (s : State) (credit : Nat) : (s.startForward credit).pending = s.pending := (s.startForward_portOnly credit).pending

@[simp] theorem State.startReply_resetHeld (s : State) : s.startReply.resetHeld = s.resetHeld := (s.startReply_portOnly).resetHeld
@[simp] theorem State.startReply_rate (s : State) : s.startReply.rate = s.rate := (s.startReply_portOnly).rate
@[simp] theorem State.startReply_rx (s : State) : s.startReply.rx = s.rx := (s.startReply_portOnly).rx
@[simp] theorem State.startReply_time (s : State) : s.startReply.time = s.time := (s.startReply_portOnly).time
@[simp] theorem State.startReply_sched (s : State) : s.startReply.sched = s.sched := (s.startReply_portOnly).sched
@[simp] theorem State.startReply_out (s : State) : s.startReply.out = s.out := (s.startReply_portOnly).out
@[simp] theorem State.startReply_faults (s : State) : s.startReply.faults = s.faults := (s.startReply_portOnly).faults
@[simp] theorem State.startReply_addr (s : State) : s.startReply.addr = s.addr := (s.startReply_portOnly).addr
@[simp] theorem State.startReply_owner (s : State) : s.startReply.owner = s.owner := (s.startReply_portOnly).owner
@[simp] theorem State.startReply_cfg (s : State) : s.startReply.cfg = s.cfg := (s.startReply_portOnly).cfg
@[simp] theorem State.startReply_pending (s : State) : s.startReply.pending = s.pending := (s.startReply_portOnly).pending

@[simp] theorem State.idleStart_resetHeld (s : State) : s.idleStart.resetHeld = s.resetHeld := (s.idleStart_portOnly).resetHeld
@[simp] theorem State.idleStart_rate (s : State) : s.idleStart.rate = s.rate := (s.idleStart_portOnly).rate
@[simp] theorem State.idleStart_rx (s : State) : s.idleStart.rx = s.rx := (s.idleStart_portOnly).rx
@[simp] theorem State.idleStart_time (s : State) : s.idleStart.time = s.time := (s.idleStart_portOnly).time
@[simp] theorem State.idleStart_sched (s : State) : s.idleStart.sched = s.sched := (s.idleStart_portOnly).sched
@[simp] theorem State.idleStart_out (s : State) : s.idleStart.out = s.out := (s.idleStart_portOnly).out
@[simp] theorem State.idleStart_faults (s : State) : s.idleStart.faults = s.faults := (s.idleStart_portOnly).faults
@[simp] theorem State.idleStart_addr (s : State) : s.idleStart.addr = s.addr := (s.idleStart_portOnly).addr
@[simp] theorem State.idleStart_owner (s : State) : s.idleStart.owner = s.owner := (s.idleStart_portOnly).owner
@[simp] theorem State.idleStart_cfg (s : State) : s.idleStart.cfg = s.cfg := (s.idleStart_portOnly).cfg
@[simp] theorem State.idleStart_pending (s : State) : s.idleStart.pending = s.pending := (s.idleStart_portOnly).pending

@[simp] theorem State.settle_resetHeld (s : State) : s.settle.resetHeld = s.resetHeld := (s.settle_portOnly).resetHeld
@[simp] theorem State.settle_rate (s : State) : s.settle.rate = s.rate := (s.settle_portOnly).rate
@[simp] theorem State.settle_rx (s : State) : s.settle.rx = s.rx := (s.settle_portOnly).rx
@[simp] theorem State.settle_time (s : State) : s.settle.time = s.time := (s.settle_portOnly).time
@[simp] theorem State.settle_sched (s : State) : s.settle.sched = s.sched := (s.settle_portOnly).sched
@[simp] theorem State.settle_out (s : State) : s.settle.out = s.out := (s.settle_portOnly).out
@[simp] theorem State.settle_faults (s : State) : s.settle.faults = s.faults := (s.settle_portOnly).faults
@[simp] theorem State.settle_addr (s : State) : s.settle.addr = s.addr := (s.settle_portOnly).addr
@[simp] theorem State.settle_owner (s : State) : s.settle.owner = s.owner := (s.settle_portOnly).owner
@[simp] theorem State.settle_cfg (s : State) : s.settle.cfg = s.cfg := (s.settle_portOnly).cfg
@[simp] theorem State.settle_pending (s : State) : s.settle.pending = s.pending := (s.settle_portOnly).pending
@[simp] theorem State.settle_cap_enable (s : State) : s.settle.cap.enable = s.cap.enable := by rw [(s.settle_portOnly).cap]
@[simp] theorem State.settle_cap_edges (s : State) : s.settle.cap.edges = s.cap.edges := by rw [(s.settle_portOnly).cap]
@[simp] theorem State.settle_cap_filterTime (s : State) : s.settle.cap.filterTime = s.cap.filterTime := by rw [(s.settle_portOnly).cap]
@[simp] theorem State.settle_cap_pins (s : State) : s.settle.cap.pins = s.cap.pins := by rw [(s.settle_portOnly).cap]
@[simp] theorem State.settle_cap_sampled (s : State) : s.settle.cap.sampled = s.cap.sampled := by rw [(s.settle_portOnly).cap]
@[simp] theorem State.settle_cap_lines (s : State) : s.settle.cap.lines = s.cap.lines := by rw [(s.settle_portOnly).cap]
@[simp] theorem State.settle_cap_ring (s : State) : s.settle.cap.ring = s.cap.ring := by rw [(s.settle_portOnly).cap]
@[simp] theorem State.settle_cap_nextSeq (s : State) : s.settle.cap.nextSeq = s.cap.nextSeq := by rw [(s.settle_portOnly).cap]
@[simp] theorem State.settle_cap_gapPending (s : State) : s.settle.cap.gapPending = s.cap.gapPending := by rw [(s.settle_portOnly).cap]
@[simp] theorem State.settle_cap_triggers (s : State) : s.settle.cap.triggers = s.cap.triggers := by rw [(s.settle_portOnly).cap]

@[simp] theorem State.arbitrate_resetHeld (s : State) : s.arbitrate.resetHeld = s.resetHeld := (s.arbitrate_portOnly).resetHeld
@[simp] theorem State.arbitrate_rate (s : State) : s.arbitrate.rate = s.rate := (s.arbitrate_portOnly).rate
@[simp] theorem State.arbitrate_rx (s : State) : s.arbitrate.rx = s.rx := (s.arbitrate_portOnly).rx
@[simp] theorem State.arbitrate_time (s : State) : s.arbitrate.time = s.time := (s.arbitrate_portOnly).time
@[simp] theorem State.arbitrate_sched (s : State) : s.arbitrate.sched = s.sched := (s.arbitrate_portOnly).sched
@[simp] theorem State.arbitrate_out (s : State) : s.arbitrate.out = s.out := (s.arbitrate_portOnly).out
@[simp] theorem State.arbitrate_faults (s : State) : s.arbitrate.faults = s.faults := (s.arbitrate_portOnly).faults
@[simp] theorem State.arbitrate_addr (s : State) : s.arbitrate.addr = s.addr := (s.arbitrate_portOnly).addr
@[simp] theorem State.arbitrate_owner (s : State) : s.arbitrate.owner = s.owner := (s.arbitrate_portOnly).owner
@[simp] theorem State.arbitrate_cfg (s : State) : s.arbitrate.cfg = s.cfg := (s.arbitrate_portOnly).cfg
@[simp] theorem State.arbitrate_pending (s : State) : s.arbitrate.pending = s.pending := (s.arbitrate_portOnly).pending
@[simp] theorem State.arbitrate_cap_enable (s : State) : s.arbitrate.cap.enable = s.cap.enable := by rw [(s.arbitrate_portOnly).cap]
@[simp] theorem State.arbitrate_cap_edges (s : State) : s.arbitrate.cap.edges = s.cap.edges := by rw [(s.arbitrate_portOnly).cap]
@[simp] theorem State.arbitrate_cap_filterTime (s : State) : s.arbitrate.cap.filterTime = s.cap.filterTime := by rw [(s.arbitrate_portOnly).cap]
@[simp] theorem State.arbitrate_cap_pins (s : State) : s.arbitrate.cap.pins = s.cap.pins := by rw [(s.arbitrate_portOnly).cap]
@[simp] theorem State.arbitrate_cap_sampled (s : State) : s.arbitrate.cap.sampled = s.cap.sampled := by rw [(s.arbitrate_portOnly).cap]
@[simp] theorem State.arbitrate_cap_lines (s : State) : s.arbitrate.cap.lines = s.cap.lines := by rw [(s.arbitrate_portOnly).cap]
@[simp] theorem State.arbitrate_cap_ring (s : State) : s.arbitrate.cap.ring = s.cap.ring := by rw [(s.arbitrate_portOnly).cap]
@[simp] theorem State.arbitrate_cap_nextSeq (s : State) : s.arbitrate.cap.nextSeq = s.cap.nextSeq := by rw [(s.arbitrate_portOnly).cap]
@[simp] theorem State.arbitrate_cap_gapPending (s : State) : s.arbitrate.cap.gapPending = s.cap.gapPending := by rw [(s.arbitrate_portOnly).cap]
@[simp] theorem State.arbitrate_cap_triggers (s : State) : s.arbitrate.cap.triggers = s.cap.triggers := by rw [(s.arbitrate_portOnly).cap]

/-- R38: what the Notice Unit's examination can do. -/
theorem State.placeNotice_cases (s : State) :
    (s.notices.queue ≠ [] ∧ s.notices.outstanding = false ∧ s.port.replies.length ≤ 6 ∧
      s.placeNotice = (s.queueReply noticeDesc).setNotices { s.notices with outstanding := true }) ∨
    (¬(s.notices.queue ≠ [] ∧ s.notices.outstanding = false ∧ s.port.replies.length ≤ 6) ∧ s.placeNotice = s) := by
  by_cases h : s.notices.queue ≠ [] ∧ s.notices.outstanding = false ∧ s.port.replies.length ≤ 6
  · refine .inl ⟨h.1, h.2.1, h.2.2, if_pos ⟨h.1, h.2.1, ?_⟩⟩
    show s.port.replies.length + 2 ≤ 8
    omega
  · refine .inr ⟨h, if_neg fun k => h ⟨k.1, k.2.1, ?_⟩⟩
    have : s.port.replies.length + 2 ≤ 8 := k.2.2
    omega

/-- A transmitter that is not IDLE takes nothing by itself (R40). -/
theorem State.idleStart_busy {s : State} (h : s.port.tx ≠ .idle) : s.idleStart = s := by
  unfold State.idleStart
  split
  · contradiction
  all_goals rfl

/-- A part with nothing to place and nothing to send is settled. -/
theorem State.settle_quiet {s : State} (hn : s.placeNotice = s) (ht : s.port.tx ≠ .idle) : s.settle = s := by
  simp [State.settle, hn, State.idleStart_busy ht]

end Sys2Proof.Machine
end

