-- ==== Sys2Proof/Laws/Requests.lean ====
section
/-! SUPPORT. What taking a request can do, said once: when it is taken, when it is not, and what one descriptor, one
cancelled record and one trigger entry can do. -/

namespace Sys2Proof.Machine

/-- The kind octet of a request is a known request kind below 0x80. -/
theorem Request.kind_known (r : Request) : requestKind r.kind = true ∧ ¬ 0x80 ≤ r.kind.toNat := by
  cases r <;> exact ⟨rfl, by simp [Request.kind]⟩

/-- R29 to R33: the tests of step 6 on a well-formed request pass when the entry takes it. -/
theorem State.verdict_takes {s : State} {h : ReqHeader} {e : Station} {r : Request} (ht : s.Takes h r.kind e)
    (hw : r.wellFormed = true) : s.verdict e h.src r.kind markClear (some r) = .taken r := by
  obtain ⟨-, -, -, hp, ho, hl⟩ := ht
  have hk := r.kind_known
  have ho' : (kindOwned r.kind && !s.authorised h.src) = false := by
    cases hko : kindOwned r.kind
    · rfl
    · simp [ho hko]
  have hl' : ¬ Config.replyPlaces ≤ s.port.replies.length := by show ¬ 8 ≤ _; omega
  simp [State.verdict, markClear, hk.1, hk.2, hp, ho', hw, hl']

/-- R33: a well-formed request that the entry takes is performed. -/
theorem State.request_taken {s : State} {h : ReqHeader} {e : Station} {r : Request} {arrival : Ticks}
    (ht : s.Takes h r.kind e) (hw : r.wellFormed = true) :
    s.request h arrival r = (s.perform h e.mask arrival 0 r).settle := by
  unfold State.request
  rw [ht.2.2.1]
  dsimp only
  rw [State.verdict_takes ht hw]

/-- A request of a broadcast command is met as a request when its Dest is no broadcast. -/
theorem State.control_taken {s : State} {h : ReqHeader} {e : Station} {c : Command}
    (ht : s.Takes h kindControl e) :
    s.control h c = (s.perform h e.mask s.lineTime 0 (.control c)).settle := by
  unfold State.control
  rw [if_neg ht.2.1]
  exact State.request_taken (r := .control c) ht rfl

/-- What a request can do: nothing, or its performance and the end of the event. -/
theorem State.request_cases (s : State) (h : ReqHeader) (arrival : Ticks) (r : Request) :
    s.request h arrival r = s ∨
      ∃ e q, s.station h.dest = some e ∧ s.verdict e h.src r.kind markClear (some r) = .taken q ∧
        s.request h arrival r = (s.perform h e.mask arrival 0 q).settle := by
  unfold State.request
  split
  · exact .inl rfl
  · rename_i e he
    split
    · rename_i q hq
      exact .inr ⟨e, q, he, hq, rfl⟩
    · exact .inl rfl
    · exact .inl rfl

/-- What step 6 can have let through: the request itself, with room in the Reply Queue. -/
theorem State.verdict_eq_taken {s : State} {e : Station} {src kind mark : Octet} {parsed : Option Request} {q : Request}
    (h : s.verdict e src kind mark parsed = .taken q) :
    mark = markClear ∧ parsed = some q ∧ q.wellFormed = true ∧ s.port.replies.length < 8 := by
  unfold State.verdict at h
  split at h
  · cases h
  · rename_i hm
    split at h
    · cases h
    · split at h
      · cases h
      · split at h
        · cases h
        · split at h
          · cases h
          · split at h
            · cases h
            · rename_i r
              split at h
              · cases h
              · rename_i hw
                split at h
                · cases h
                · rename_i hl
                  cases h
                  exact ⟨not_not.mp hm, rfl, by simpa using hw, Nat.lt_of_not_le hl⟩

/-- R86, R91: what one descriptor can do: a result and nothing else, or a link. -/
theorem State.admitDesc_cases (s : State) (src : Octet) (mask : BitVec 16) (arrivalSlot : SlotNo) (d : Descriptor) :
    (∃ r, s.judge mask arrivalSlot d = .error r ∧ s.admitDesc src mask arrivalSlot d = (r, s)) ∨
    (∃ ch k due, s.judge mask arrivalSlot d = .ok (ch, k, due) ∧
      ((s.sched.free = [] ∧ s.admitDesc src mask arrivalSlot d = (.poolEmpty, s)) ∨
       (s.sched.free ≠ [] ∧ s.linkRecord (lineRecord src d ch k due) = none ∧
          s.admitDesc src mask arrivalSlot d = (.slotFull, s)) ∨
       (∃ t, s.linkRecord (lineRecord src d ch k due) = some t ∧
          s.admitDesc src mask arrivalSlot d = (.accepted, t)))) := by
  unfold State.admitDesc
  split
  · rename_i r hj
    exact .inl ⟨r, hj, rfl⟩
  · rename_i ch k due hj
    refine .inr ⟨ch, k, due, hj, ?_⟩
    split
    · rename_i hf
      exact .inl ⟨hf, rfl⟩
    · rename_i hf
      split
      · rename_i t ht
        exact .inr (.inr ⟨t, ht, rfl⟩)
      · rename_i ht
        exact .inr (.inl ⟨hf, ht, rfl⟩)

/-- Admissions change only the Scheduler. -/
theorem State.admitDesc_frame (s : State) (src : Octet) (mask : BitVec 16) (arrivalSlot : SlotNo) (d : Descriptor) :
    ∃ v, (s.admitDesc src mask arrivalSlot d).2 = s.setSched v := by
  rcases s.admitDesc_cases src mask arrivalSlot d with ⟨r, -, h⟩ | ⟨ch, k, due, -, ⟨-, h⟩ | ⟨-, -, h⟩ | ⟨t, ht, h⟩⟩
  · exact ⟨s.sched, by rw [h]; rfl⟩
  · exact ⟨s.sched, by rw [h]; rfl⟩
  · exact ⟨s.sched, by rw [h]; rfl⟩
  · obtain ⟨id, rest, -, -, rfl⟩ := State.linkRecord_eq_some ht
    exact ⟨_, by rw [h]⟩

/-- R98: removing one record is an effect. -/
theorem State.cancelTurn_effectsOnly (time : Ticks) (s : State) (id : Nat) :
    s.EffectsOnly (State.cancelTurn time s id) := by
  unfold State.cancelTurn
  split
  · exact (State.freeRecord_effectsOnly _ _).trans (State.offerCompletion_noticesOnly _ _ _ _).toEffectsOnly
  · exact .refl s

/-- R97, R98: a CANCEL is an effect. -/
theorem State.takeCancel_effectsOnly (s : State) (selector : Octet) (tag : Half) (channel : Octet) (mask : BitVec 16) :
    s.EffectsOnly (s.takeCancel selector tag channel mask).2 :=
  foldl_inv _ (fun t => s.EffectsOnly t) (fun _ _ h => h.trans (State.cancelTurn_effectsOnly _ _ _)) _ _ (.refl s)

end Sys2Proof.Machine
end

