-- ==== Sys2Proof/WellFormed.lean ====
section
/-! DEFINITION. Which commands are well formed: the operands are of the row's own form. Every meaning is total, so a
command that is not well formed is no danger: it answers what its docstring says. -/

namespace Sys2Proof

open Sys2Proof.Machine

/-- A request row is unicast: its Dest is no broadcast (R23). -/
def ReqHeader.unicast (h : ReqHeader) : Bool := h.dest ≠ 0xFF

/-- R31 and the row's own object. -/
def Instr.wellFormed : Instr → Bool
  | .resetNLow | .resetRelease _ _ | .settlingEnd | .lineBreak | .fs | .dataCharacter _ | .fe => true
  -- R9: PARITY, FRAMING or a stray control character
  | .errorCharacter c => match charClassify c with | .error _ => true | .data _ | .fs | .fe => false
  -- a payload of a frame has at most 240 octets (section 11.1)
  | .sync _ _ payload => decide (payload.length ≤ 240)
  | .syncTimeoutExpiry | .holdoverExpiry | .slotBoundary | .pulseExpiry _ | .captureInputChange _ _ | .qualifiedEdge _ => true
  | .schedule h _ flags ds => h.unicast && (Request.schedule flags ds).wellFormed
  | .cancel h sel tag ch => h.unicast && (Request.cancel sel tag ch).wellFormed
  | .poll h av seq mc => h.unicast && (Request.poll av seq mc).wellFormed
  | .read h _ _ => h.unicast
  -- an object with no write behaviour of its own, and a value of its length
  | .write h o i v => h.unicast && decide (parseWrite o i v = some (.plain o i))
  -- a CONFIG field other than SlotExp and LineErrorLimit
  | .writeConfig h i _ => h.unicast && decide (i.toNat < 24) && i != 0 && i != 10
  | .writeSlotExp h _ | .writeLineErrorLimit h _ | .writeAddress h _ _ | .writeChannel h _ _ | .writeTrigger h _ _
  | .writeCaptureConfig h _ | .writeFault h _ => h.unicast
  -- START, HALT, RESUME, SAFE and RESTART have a broadcast form; the others do not (R27)
  | .start _ | .halt _ | .resume _ | .safe _ | .restart _ _ => true
  | .clearWheel h | .claim h | .release h => h.unicast
  | .restartEffect | .noticeDescriptorPlace | .feSent | .gapEnd | .breakEnd | .settlingWaitRestart _ | .tick => true

end Sys2Proof
end

