-- ==== Sys2Proof/Tests/Slice0.lean ====
section
/-! SUPPORT. Tests: the smoke tests of WellFormed, one or two small theorems for each command, most of them from the worked
sections of the spec, and for every statement that has hypotheses a concrete state and operands that meet them, clause
by clause. -/

namespace Sys2Proof.Tests

set_option Elab.async false

open Sys2Proof Sys2Proof.Machine

/-! ## Helpers -/

/-- The state that a command answers. -/
def after (c : Instr) (s : State) : State :=
  match exec c s with
  | .next t => t
  | .fault _ => s
  | .refused _ => s

/-- The part just after release, straps and inputs 0: entry 0 holds 0x10 with everything. -/
def up : State := State.reset

/-- Entry 0 of `up`. -/
def here : Station := { address := 0x10, mask := 0xFFFF, sched := true, capt := true, mgmt := true }

/-- A request header to 0x10 from 0x05. -/
def hdr : ReqHeader := { dest := 0x10, src := 0x05, seq := 0x21 }

/-- A broadcast header from 0x05. -/
def allHdr : ReqHeader := { dest := 0xFF, src := 0x05, seq := 0x21 }

/-- `s` at this local count. -/
def clocked (n : Ticks) (s : State) : State := { s with time := { s.time with localCount := n } }

/-- `s` in this scheduler state. -/
def inState (st : SchedState) (s : State) : State := { s with sched := { s.sched with state := st } }

/-- `s` with every channel enabled. -/
def enabled (s : State) : State :=
  { s with out := { s.out with table := Vector.replicate 16 { ChannelEntry.reset with enabled := true } } }

/-- `s` with this assembly of the receiver. -/
def receiving (st : RxState) (s : State) : State := { s with rx := { s.rx with state := st } }

/-- `s` with this transmitter. -/
def sending (tx : Transmitter) (s : State) : State := { s with port := { s.port with tx := tx } }

/-- `s` with these latched flags and active conditions. -/
def faulty (latched active : Octet) (s : State) : State := { s with faults := { latched := latched, active := active } }

/-- A record on this channel, with this Due. -/
def recordAt (id : Nat) (due : SlotNo) : ActionRecord :=
  { id := id, due := due, channel := 4, action := .set, tag := 31, origin := .line 0x05, period := none,
    remaining := .times 1, fired := 0, report := false }

/-- `s` RUNNING with every channel enabled, 4 free records from number 100 on, and these linked, in slot `cur`. -/
def withWheel (cur : SlotNo) (wheel : List ActionRecord) (s : State) : State :=
  enabled { s with sched := { state := .running, curSlot := cur, free := [100, 101, 102, 103], wheel := wheel } }

/-- Line time as the offset makes it at local count 0. -/
def atLine (t : Ticks) (s : State) : State := { s with time := { s.time with offset := t } }

/-! ## WellFormed: an ill-formed term for each check -/

theorem test_illFormed_goodCharacter :
    (Instr.errorCharacter { octet := 0x00, kind := false, parity := false, stop := true }).wellFormed = false := by decide
theorem test_wellFormed_framingCharacter :
    (Instr.errorCharacter { octet := 0x00, kind := false, parity := false, stop := false }).wellFormed = true := by decide
theorem test_illFormed_longSync : (Instr.sync 0 0 (List.replicate 241 0)).wellFormed = false := by decide +kernel
theorem test_illFormed_broadcastRead : (Instr.read allHdr 1 0).wellFormed = false := by decide
theorem test_illFormed_broadcastClaim : (Instr.claim allHdr).wellFormed = false := by decide
theorem test_wellFormed_broadcastSafe : (Instr.safe allHdr).wellFormed = true := by decide
/-- A descriptor of this Mode. -/
def descOfMode (m : Octet) : Descriptor :=
  { channel := 0, action := 1, modeFlags := m, period := 0, target := 6, width := 0, tag := 7, count := 1 }
theorem test_illFormed_emptySchedule : (Instr.schedule hdr 0 0 []).wellFormed = false := by decide
theorem test_illFormed_fifteenDescriptors :
    (Instr.schedule hdr 0 0 (List.replicate 15 (descOfMode 2))).wellFormed = false := by decide +kernel
theorem test_wellFormed_fourteenDescriptors :
    (Instr.schedule hdr 0 0 (List.replicate 14 (descOfMode 2))).wellFormed = true := by decide +kernel
theorem test_illFormed_modeThree : (Instr.schedule hdr 0 0 [descOfMode 3]).wellFormed = false := by decide
theorem test_illFormed_selector : (Instr.cancel hdr 4 0 0).wellFormed = false := by decide
theorem test_illFormed_cancelChannel : (Instr.cancel hdr 2 0 16).wellFormed = false := by decide
theorem test_illFormed_maxCountZero : (Instr.poll hdr 0 0 0).wellFormed = false := by decide
theorem test_illFormed_maxCountSeventeen : (Instr.poll hdr 0 0 17).wellFormed = false := by decide
theorem test_illFormed_writeOfConfig : (Instr.write hdr 3 1 [0, 2]).wellFormed = false := by decide
theorem test_wellFormed_writeOfIdent : (Instr.write hdr 1 0 [0, 0, 0, 0, 0]).wellFormed = true := by decide
theorem test_illFormed_configIndex : (Instr.writeConfig hdr 24 0).wellFormed = false := by decide
theorem test_illFormed_configSlotExp : (Instr.writeConfig hdr 0 12).wellFormed = false := by decide
theorem test_illFormed_configLineErrorLimit : (Instr.writeConfig hdr 10 8).wellFormed = false := by decide

/-! ## Words -/

/-- The table gives no bits. -/
theorem test_noWordSpellsACommand : decodeTableWord 16 0 = none ∧ up.withFetchWord 16 0 = up := ⟨rfl, rfl⟩

/-! ## Reset (10.7) -/

theorem test_resetNLow : (after .resetNLow (faulty 0xFF 0 (withWheel 9 [] up))).stat = false ∧
    (after .resetNLow (withWheel 9 [] up)).sched = Scheduler.reset := by decide +kernel
/-- R22: 0x10 plus the strap value. -/
theorem test_resetRelease : (after (.resetRelease 0x3 0) up).addr[0].map Station.address = some 0x13 := by decide +kernel

/-! ## Receiver (chapter 1) -/

/-- R5: a character-time at 2 Mbit/s is 24 ticks. -/
theorem test_settlingEnd : (after .settlingEnd (clocked 23 up)).rx.state = .settling 0 ∧
    (after .settlingEnd (clocked 24 up)).rx.state = .hunting := by decide +kernel
theorem test_settlingWaitRestart : (after (.settlingWaitRestart 5) (clocked 10 up)).rx.state = .settling 15 := by decide +kernel
/-- R11. -/
theorem test_break : (after .lineBreak (receiving (.errored ⟨[1], 0, 0⟩ .parity) up)).rx.lastDiscard = .parity ∧
    (after .lineBreak (receiving (.assembling ⟨[1], 0, 0⟩) up)).rx.lastDiscard = .brk := by decide +kernel
theorem test_breakEnd : (after .breakEnd { clocked 9 up with rx := { up.rx with inBreak := true } }).rx.state = .settling 9 := by
  decide +kernel
/-- R10: an FS in a frame discards it as TRUNCATED. -/
theorem test_fs : (after .fs (receiving (.assembling ⟨[1], 0, 0⟩) up)).rx.lastDiscard = .truncated ∧
    (after .fs (receiving .hunting up)).rx.freeBuffers = 15 := by decide +kernel
theorem test_dataCharacter : (after (.dataCharacter 7) (receiving (.assembling ⟨[1], 0, 0⟩) up)).rx.state =
    .assembling ⟨[1, 7], 0, 0⟩ := by decide +kernel
/-- R9: a control character other than FS and FE. 0xA5 has an even number of ones, so with the kind bit its parity is 1. -/
theorem test_errorCharacter :
    (after (.errorCharacter ⟨0x00, true, true, true⟩) (receiving (.assembling ⟨[], 0, 0⟩) up)).rx.state =
      .errored ⟨[], 0, 0⟩ .strayControl ∧
    charClassify ⟨0xA5, true, true, true⟩ = .fs := by decide +kernel

/-- A READ of IDENT to 0x10 from 0x05, Hops 5: the octets between FS and FE. -/
def readFrame : Frame :=
  { dest := 0x10, src := 0x05, kind := 0x30, seq := 1, hops := 5, mark := 0, payload := [1, 0] }

/-- R12 to R35: the frame is taken: forwarded with Mark TAKEN and Hops 4, and a reply queued. -/
theorem test_fe_taken :
    let t := after .fe (receiving (.assembling ⟨readFrame.withCrc, 0, 0⟩) up)
    t.port.forward.map Forwarded.frame = [{ readFrame with hops := 4, mark := 1 }] ∧
    t.port.replies.map ReplyDesc.body = [.read .ok 1 0] ∧ t.rx.state = .hunting := by decide +kernel
/-- 11.2: a frame whose Mark was changed without a fresh CRC is discarded as CRC. -/
theorem test_fe_crc :
    (after .fe (receiving (.assembling ⟨readFrame.withCrc.set 5 1, 0, 0⟩) up)).rx.lastDiscard = .crc := by decide +kernel
/-- 11.2. -/
theorem test_crc : crcOf [] = 0xFFFF ∧ crcOf [0x00] = 0xE1F0 ∧
    crcOf [0x31, 0x32, 0x33, 0x34, 0x35, 0x36, 0x37, 0x38, 0x39] = 0x29B1 := by decide +kernel

/-- 2.6: entry 0 is 0x13 with everything, entry 3 is 0x40 with SCHED and channels 8-15, the owner is 0x00. -/
def node26 : State :=
  { up with
    owner := 0x00
    addr := (up.addr.set 0 (some { here with address := 0x13 })).set 3
      (some { address := 0x40, mask := 0xFF00, sched := true, capt := false, mgmt := false }) }

/-- A frame of Hops 5 with this Mark, received whole. -/
def arriving (dest src kind mark : Octet) (payload : List Octet) : Received :=
  { frame := { dest := dest, src := src, kind := kind, seq := 0, hops := 5, mark := mark, payload := payload }
    arrival := 0, arrivalOffset := 0 }

/-- The Mark with which a frame leaves. -/
def leaves (f : Received) : List Octet := (node26.classify f).port.forward.map fun g => g.frame.mark

/-- The lines of 2.6 in order: a WRITE to 0x40 REFUSED, a TAKEN SCHEDULE carried, an own REPLY removed, another's REPLY
carried, a POLL of MaxCount 0 MALFORMED, a START from a non-owner REFUSED, a SYNC to 0x13 MALFORMED, a broadcast SAFE
from a non-owner carried. -/
theorem test_classification_examples :
    leaves (arriving 0x40 0x00 0x31 0 [3, 1, 0, 2]) = [3] ∧ leaves (arriving 0x13 0x00 0x10 1 []) = [1] ∧
    leaves (arriving 0x00 0x13 0x80 0 [0]) = [] ∧ leaves (arriving 0x00 0x22 0x80 0 [0]) = [0] ∧
    leaves (arriving 0x13 0x00 0x20 0 [0, 0, 0, 0]) = [4] ∧ leaves (arriving 0x13 0x07 0x32 0 [1]) = [3] ∧
    leaves (arriving 0x13 0x00 0x01 0 []) = [4] ∧ leaves (arriving 0xFF 0x07 0x32 0 [4]) = [0] := by decide +kernel

/-! ## Time (chapter 3) -/

theorem test_tick : (after .tick (clocked 0xFFFFFFFFFFFF up)).time.localCount = 0 := by decide +kernel

/-- Node A of 3.8: LinkDelay 28, SlotExp 12, line time 20,000,504. -/
def nodeA : State := { atLine 20000504 up with cfg := { up.cfg with linkDelay := 28 }, sched := { up.sched with curSlot := 4882 } }

/-- The payload of a SYNC with Correction 0. -/
def syncPayload (master : BitVec 48) : List Octet := octetsOf 6 master ++ [0, 0, 0, 0, 1]

/-- 3.8: SYNC 1 at A. R53: an error of 0 raises no time step event, though slot 1 has been reached. -/
theorem test_sync_first :
    let t := after (.sync 0x00 20000000 (syncPayload 50000000)) nodeA
    t.time.reference = some 50000028 ∧ t.lineTime = 50000532 ∧ t.time.sync = .acquiring ∧ t.sched.curSlot = 12207 ∧
    (after (.sync 0x00 4096 (syncPayload 4096)) (atLine 4096 up)).sched.curSlot = 0 := by
  decide +kernel

/-- 3.8: the forward of SYNC 1, begun at once, carries Correction 532. -/
theorem test_sync_forwarded :
    let f : Frame := { dest := 0xFF, src := 0, kind := 1, seq := 0, hops := 5, mark := 0, payload := syncPayload 50000000 }
    let t := sending .idle { nodeA with rx := { nodeA.rx with state := .assembling ⟨f.withCrc, 20000000, 20000504⟩, freeBuffers := 15 } }
    (match (after .fe t).port.tx with
      | .sendingForward octets _ => (octets.drop 13).take 4
      | _ => []) = octetsOf 4 (532 : BitVec 32) := by decide +kernel

/-- 3.8: 50 ms after the last SYNC, LOCKED becomes HOLDOVER. -/
theorem test_syncTimeoutExpiry :
    let t := { clocked 200000 up with time := { up.time with localCount := 200000, sync := .locked, reference := some 5, syncTimer := some 200000 } }
    (after .syncTimeoutExpiry t).time.sync = .holdover ∧ (after .syncTimeoutExpiry t).time.holdoverTimer = some 8200000 := by
  decide +kernel

/-- 9.7, step 1: the scheduler is FROZEN, SYNC_LOST latched and active, one FAULT notice, its descriptor placed. -/
theorem test_holdoverExpiry :
    let s := withWheel 40002 [] { up with time := { up.time with localCount := 8200000, sync := .holdover, reference := some 5, holdoverTimer := some 8200000 } }
    let t := after .holdoverExpiry s
    t.sched.state = .frozen ∧ t.faults = { latched := 8, active := 8 } ∧ t.notices.queue.length = 1 ∧
    t.port.replies.length = 1 ∧ t.stat = true := by decide +kernel

/-- The record R-21 of 4.7, before its firing at 5004. -/
def r21 : ActionRecord :=
  { id := 21, due := 5004, channel := 5, action := .pulse 160, tag := 21, origin := .line 0x00, period := some 3,
    remaining := .times 10, fired := 0, report := false }

/-- 4.7: the expiry of 5004 fires R-21 and relinks it at 5007. -/
theorem test_slotBoundary_repeat :
    let t := after .slotBoundary (withWheel 5003 [r21] (atLine (5004 * 4096) up))
    t.sched.wheel = [{ r21 with due := 5007, remaining := .times 9, fired := 1 }] ∧
    t.out.chans[5] = { level := true, pulseEnd := some 160, lastTag := some 21 } ∧ t.notices.queue = [] := by decide +kernel

/-- 4.7: with 32 records in list 146, the relink of the expiry of 5007 drops R-21, with Fired 2. -/
theorem test_slotBoundary_dropped :
    let others := (List.range 32).map fun i => recordAt (200 + i) 5010
    let t := after .slotBoundary (withWheel 5006 ({ r21 with due := 5007, remaining := .times 9, fired := 1 } :: others) (atLine (5007 * 4096) up))
    t.sched.wheel = others ∧ t.faults.latched = 0x20 ∧
    (t.notices.queue.map fun n => (Notice.octets n).getD 8 0) = [2, 0] := by decide +kernel

/-- The five records of 6.5. -/
def wheel65 : List ActionRecord :=
  let r := fun id ch act tag due period rem fired report =>
    ({ id := id, due := due, channel := ch, action := act, tag := tag, origin := .line 0, period := period, remaining := rem,
       fired := fired, report := report } : ActionRecord)
  [r 0 1 (.pulse 400) 50 30002 (some 2) (.times 6) 3 false, r 1 2 .set 51 30003 none (.times 1) 0 true,
   r 2 2 .clear 52 30004 none (.times 1) 0 false, r 3 3 .toggle 53 30005 (some 5) .unlimited 10 false,
   r 4 4 .set 54 30006 none (.times 1) 0 false]

/-- The outcomes and Fired counts of the notices offered; 0 for a FAULT. -/
def told (s : State) : List (Octet × Nat) :=
  s.notices.queue.map fun n => match n.body with
    | .completion _ _ o _ fired _ => (o.code, fired)
    | .fault _ _ => (0, 0)

/-- 6.5, within the limit: four LATE notices; P at 30,008 with Remaining 3 and U at 30,010; channel 2 INACTIVE, Tag 52. -/
theorem test_timeStep_catchUp :
    let t := (withWheel 30001 wheel65 up).timeStep 30006 122905480
    told t = [(2, 4), (2, 1), (2, 1), (2, 11)] ∧
    t.sched.wheel.map (fun r => (r.due, r.remaining)) = [(30008, .times 3), (30010, .unlimited)] ∧
    (t.out.chans[2].level, t.out.chans[2].lastTag) = (false, some 52) ∧ t.faults.latched = 0 := by decide +kernel

/-- 6.5, beyond the limit: EXPIRED notices with one FAULT after the first; U alone at 30,045. -/
theorem test_timeStep_expired :
    let t := (withWheel 30001 wheel65 up).timeStep 30041 123048840
    told t = [(5, 3), (0, 0), (5, 0), (5, 0), (5, 10), (5, 0)] ∧
    t.sched.wheel.map (fun r => (r.due, r.fired)) = [(30045, 10)] := by decide +kernel

/-! ## Channels (chapter 7) -/

/-- 7.9: at 1,028,192 the pulse of Tag 72 ends, had it not been removed; one tick earlier it has not. -/
theorem test_pulseExpiry :
    let s := { up with out := { up.out with chans := up.out.chans.set 7 { level := true, pulseEnd := some 1028192, lastTag := some 72 } } }
    (after (.pulseExpiry 7) (clocked 1028191 s)).out.chans[7].level = true ∧
    (after (.pulseExpiry 7) (clocked 1028192 s)).out.chans[7] = { level := false, pulseEnd := none, lastTag := some 72 } := by
  decide +kernel

/-- 7.9: 8192 ticks remain at 1,020,000: pulse active, LastTag valid, level ACTIVE. -/
theorem test_channelStateValue :
    (clocked 1020000 { up with out := { up.out with chans := up.out.chans.set 7 { level := true, pulseEnd := some 1028192, lastTag := some 72 } } }).channelStateValue 7
      = [7, 0x00, 0x20, 0x00, 0, 72, 0, 0] := by decide +kernel

/-! ## Capture (chapter 8) -/

/-- `up` after the first tick. -/
def sampled : State := { up with cap := { up.cap with sampled := true } }

/-- R142: FilterTime 2 microseconds is 8 ticks; a return to the filtered level abandons the candidate. -/
theorem test_captureInputChange :
    let s := after (.captureInputChange 3 true) (clocked 50 sampled)
    s.cap.lines[3].candidate = some { level := true, start := 50, duration := 8 } ∧
    (after (.captureInputChange 3 false) s).cap.lines[3].candidate = none := by decide +kernel

/-- 8.9: line 3, entries 2 and 5, slot 8000. -/
def node89 : State :=
  let s := withWheel 8000 [] { sampled with cap := { sampled.cap with
    lines := sampled.cap.lines.set 3 { filtered := false, candidate := some { level := true, start := 0, duration := 8 } }
    triggers := (sampled.cap.triggers.set 2
      { enabled := true, line := 3, edge := .rising, channel := 6, action := .pulse, width := 2000, delay := 3, oneShot := true, report := true }).set 5
      { enabled := true, line := 3, edge := .both, channel := 6, action := .clear, width := 4000, delay := 5, oneShot := false, report := false } } }
  clocked 8 s

/-- 8.9, first line: Tag 2 at 8003 and Tag 5 at 8005; entry 2 disarmed; nothing stored. -/
theorem test_qualifiedEdge_triggers :
    let t := after (.qualifiedEdge 3) node89
    t.sched.wheel.map (fun r => (r.tag, r.due)) = [(2, 8003), (5, 8005)] ∧
    t.cap.triggers[2].enabled = false ∧ t.cap.triggers[5].enabled = true ∧ t.cap.ring = [] := by decide +kernel

/-- 8.8, records lost to a full ring: the edge is lost and the gap is pending. -/
theorem test_qualifiedEdge_full :
    let record : CaptureRecord := { seq := 100, line := 0, edge := .rising, time := 0, sync := .locked, gap := false }
    let t := after (.qualifiedEdge 3) { node89 with cap := { node89.cap with enable := 0xFF, ring := List.replicate 64 record } }
    t.cap.ring.length = 64 ∧ t.cap.gapPending = true := by decide +kernel

/-! ## Requests (chapters 5, 8, 10) -/

/-- The node of 5.6 at line time 81,921,500: entries 0x13 and 0x40, 30 records in list 37, 200 free. -/
def node56 : State :=
  { enabled up with
    addr := node26.addr
    time := { up.time with sync := .locked, offset := 81921500, reference := some 81900000, syncTimer := some 0 }
    sched := { state := .running, curSlot := 20000, free := List.range 200,
               wheel := (List.range 30).map fun i => recordAt (200 + i) 20005 } }

/-- D0 to D3 of 5.6. -/
def descs56 : List Descriptor :=
  [{ channel := 4, action := 4, modeFlags := 2, period := 0, target := 6, width := 400, tag := 31, count := 1 },
   { channel := 5, action := 1, modeFlags := 1, period := 0, target := 41000, width := 0, tag := 32, count := 1 },
   { channel := 6, action := 1, modeFlags := 0, period := 10, target := 81942000, width := 0, tag := 33, count := 0 },
   { channel := 9, action := 3, modeFlags := 2, period := 0, target := 50, width := 0, tag := 34, count := 1 }]

/-- The bodies of the replies waiting. -/
def bodies (s : State) : List ReplyBody := s.port.replies.map ReplyDesc.body

def hdr13 : ReqHeader := { dest := 0x13, src := 0x00, seq := 0 }

/-- 5.6: with ATOMIC: WITHDRAWN, WITHDRAWN, SLOT_FULL, NOT_ATTEMPTED, and 200 free. -/
theorem test_schedule_atomic :
    let t := after (.schedule hdr13 81919700 1 descs56) node56
    bodies t = [.fixed [4, 14, 14, 13, 15]] ∧ t.sched.wheel = node56.sched.wheel ∧ t.sched.free.length = 200 := by decide +kernel
/-- 5.6: without ATOMIC: ACCEPTED, ACCEPTED, SLOT_FULL, ACCEPTED; Dues 20,005, 20,005 and 20,049; 197 free. -/
theorem test_schedule_each :
    let t := after (.schedule hdr13 81919700 0 descs56) node56
    bodies t = [.fixed [4, 0, 0, 13, 0]] ∧ (t.sched.wheel.drop 30).map ActionRecord.due = [20005, 20005, 20049] ∧
    t.sched.free.length = 197 := by decide +kernel
/-- 5.6, Cancelling the result: Tag 31 on channel 4 is outside the mask of 0x40 and within that of 0x13. -/
theorem test_cancel :
    let s := { node56 with sched := { node56.sched with wheel := [recordAt 9 20005] } }
    bodies (after (.cancel { hdr13 with dest := 0x40 } 1 31 0) s) = [.fixed [0, 0]] ∧
    bodies (after (.cancel hdr13 1 31 0) s) = [.fixed [0, 1]] ∧ (after (.cancel hdr13 1 31 0) s).sched.wheel = [] := by
  decide +kernel

/-- Records of these Seq values. -/
def ringOf (seqs : List Half) : List CaptureRecord :=
  seqs.map fun q => { seq := q, line := 0, edge := .rising, time := 0, sync := .locked, gap := false }

/-- 8.8: step 7 removes 0-3, step 8 removes nothing. -/
theorem test_poll :
    let s := { up with cap := { up.cap with ring := ringOf [0, 1, 2, 3, 4, 5, 6, 7], nextSeq := 8, highest := some 3 } }
    let t := after (.poll hdr 1 3 16) s
    t.cap.ring = ringOf [4, 5, 6, 7] ∧ (after (.poll hdr 1 3 16) t).cap.ring = ringOf [4, 5, 6, 7] := by decide +kernel
/-- 8.8, step 4: REPORT A carries 4 of 7 records, and HighestReported becomes 3. -/
theorem test_report :
    let s := { up with cap := { up.cap with ring := ringOf [0, 1, 2, 3, 4, 5, 6], nextSeq := 7 } }
    (s.cap.reportBody 4).take 4 = [4, 7, 0, 0] ∧ (s.cap.advanceHighest 4).highest = some 3 := by decide +kernel

/-- R179. -/
theorem test_read : bodies (after (.read hdr 1 0) up) = [.read .ok 1 0] ∧ bodies (after (.read hdr 3 24) up) = [.read .noObject 3 24] := by
  decide +kernel
/-- 11.6, step 2: vendor code 0x3A51 and part code 0x5312; after reset STATUS reads 512 free records. -/
theorem test_values : up.objectValue 1 0 = [0x3A, 0x51, 0x53, 0x12, 0x01] ∧ (up.objectValue 2 0).take 4 = [0, 0, 2, 0] ∧
    up.objectValue 3 19 = [0, 1] := by decide +kernel
theorem test_write : bodies (after (.write hdr 2 0 (List.replicate 22 0)) up) = [.fixed [2]] ∧
    bodies (after (.write hdr 10 0 []) up) = [.fixed [1]] := by decide +kernel
/-- R202: a LineRate of 3 and a ReportAddress of 0x00FF are refused RANGE. -/
theorem test_writeConfig : bodies (after (.writeConfig hdr 8 3) up) = [.fixed [3]] ∧
    bodies (after (.writeConfig hdr 12 0xFF) up) = [.fixed [3]] ∧ (after (.writeConfig hdr 8 4) up).cfg.lineRate = .mbit4 := by
  decide +kernel
/-- R50, R182: HALTED only, and a time step event only when SlotExp is changed. -/
theorem test_writeSlotExp : (after (.writeSlotExp hdr 8) (atLine 1000 up)).sched.curSlot = 3 ∧
    (after (.writeSlotExp hdr 12) (atLine 5000 up)).sched.curSlot = 0 ∧
    bodies (after (.writeSlotExp hdr 8) (inState .running up)) = [.fixed [4]] := by decide +kernel
/-- R19: a limit at the count raises LINE_ERRORS. -/
theorem test_writeLineErrorLimit :
    let s := { up with rx := { up.rx with badCount := 3 } }
    (after (.writeLineErrorLimit hdr 3) s).faults = { latched := 1, active := 1 } ∧
    (after (.writeLineErrorLimit hdr 4) s).faults = { latched := 0, active := 0 } := by decide +kernel
/-- R184: entry 0 emptied alone is LOCKOUT; a second entry with its Address is DUPLICATE. -/
theorem test_writeAddress : bodies (after (.writeAddress hdr 0 ⟨0x20, 0, 0x80⟩) up) = [.fixed [6]] ∧
    bodies (after (.writeAddress hdr 1 ⟨0x10, 0xFFFF, 7⟩) up) = [.fixed [5]] := by decide +kernel
/-- 7.9: the disabling write sets the channel INACTIVE and leaves LastTag. -/
theorem test_writeChannel :
    let s := enabled { up with out := { up.out with chans := up.out.chans.set 7 { level := true, pulseEnd := none, lastTag := some 72 } } }
    (after (.writeChannel hdr 7 ⟨2, 2, 15, 40000⟩) s).out.chans[7] = { level := false, pulseEnd := none, lastTag := some 72 } := by
  decide +kernel
theorem test_writeTrigger : bodies (after (.writeTrigger hdr 2 ⟨1, 3, 1, 6, 4, 2000, 0⟩) up) = [.fixed [3]] ∧
    (after (.writeTrigger hdr 2 ⟨1, 3, 1, 6, 4, 2000, 3⟩) up).cap.triggers[2].line = 3 := by decide +kernel
theorem test_writeCaptureConfig :
    (after (.writeCaptureConfig hdr ⟨0x0F, #v[1, 2, 3, 1, 1, 1, 1, 1], 9⟩) up).cap.edges[2] = .both ∧
    bodies (after (.writeCaptureConfig hdr ⟨0x0F, #v[1, 2, 4, 1, 1, 1, 1, 1], 9⟩) up) = [.fixed [3]] := by decide +kernel
/-- 9.7, steps 4 and 9. -/
theorem test_writeFault : bodies (after (.writeFault hdr 8) (faulty 8 8 up)) = [.fixed [0, 8]] ∧
    bodies (after (.writeFault hdr 8) (faulty 8 0 up)) = [.fixed [0, 0]] := by decide +kernel

/-! ## CONTROL -/

/-- R103: a latched flag whose Response is FREEZE stops START; SYNC_LOST has it after reset. -/
theorem test_start : (after (.start hdr) up).sched.state = .running ∧ bodies (after (.start hdr) (faulty 8 0 up)) = [.fixed [4]] := by
  decide +kernel
theorem test_halt : (after (.halt allHdr) (withWheel 5 [recordAt 9 7] up)).sched =
    { state := .halted, curSlot := 5, free := [100, 101, 102, 103, 9], wheel := [] } := by decide +kernel
/-- 9.7, steps 5 and 10. -/
theorem test_resume : bodies (after (.resume hdr) (faulty 8 8 (inState .frozen up))) = [.fixed [4]] ∧
    (after (.resume hdr) (inState .frozen up)).sched.state = .running := by decide +kernel
theorem test_safe :
    let s := withWheel 5 [] { up with out := { up.out with chans := up.out.chans.set 2 { level := true, pulseEnd := some 9, lastTag := some 1 } } }
    (after (.safe allHdr) s).sched.state = .frozen ∧ (after (.safe allHdr) s).out.chans[2] = ⟨false, none, some 1⟩ := by decide +kernel
theorem test_clearWheel : (after (.clearWheel hdr) (withWheel 5 [recordAt 9 7] up)).sched.wheel = [] ∧
    (after (.clearWheel hdr) (withWheel 5 [recordAt 9 7] up)).sched.state = .running := by decide +kernel
theorem test_claim : (after (.claim hdr) up).owner = 0x05 ∧ bodies (after (.claim { hdr with src := 0xFF }) up) = [.fixed [3]] := by
  decide +kernel
theorem test_release : (after (.release hdr) { up with owner := 0x05 }).owner = 0xFF ∧
    (after (.release hdr) { up with owner := 0x06 }).owner = 0x06 := by decide +kernel
/-- 10.8: the reply at the head, the mark on the forwarded frame; with Hops 0 on the reply. -/
theorem test_restart :
    let t := after (.restart hdr 5) { up with port := { up.port with replies := [noticeDesc] } }
    t.port.forward.map Forwarded.restartMark = [true] ∧ t.port.replies.map ReplyDesc.restartReply = [true, false] ∧
    (after (.restart hdr 0) up).port.replies.map ReplyDesc.restartMark = [true] := by decide +kernel
/-- 10.8: at the end of the marked item the part restarts at the staged rate, with 16 free buffers. -/
theorem test_restartEffect :
    let s := sending (.sendingReply [] 0 true) { withWheel 5 [recordAt 9 7] up with cfg := { up.cfg with lineRate := .mbit4 } }
    (after .restartEffect s).rate = .mbit4 ∧ (after .restartEffect s).sched.state = .halted ∧
    (after .restartEffect s).port.tx = .gap 24 := by decide +kernel

/-! ## Output Port (chapter 2) -/

/-- A forwarded READ of 2.7. -/
def waiting : Forwarded := { frame := readFrame, arrival := 0, arrivalOffset := 0, restartMark := false }

/-- A FAULT notice. -/
def notice1 : Notice := { overflow := false, body := .fault .syncLost 5 }

/-- 2.7: placed while two entries are free, not with seven held. -/
theorem test_noticeDescriptorPlace :
    let s := { up with notices := { queue := [notice1], outstanding := false } }
    bodies (after .noticeDescriptorPlace s) = [.notice] ∧
    (after .noticeDescriptorPlace { s with port := { s.port with replies := List.replicate 7 (replyTo hdr .reply (.fixed [0])) } }).notices.outstanding = false := by
  decide +kernel
/-- R40, R43: 2 character-times of gap; the buffer returns. -/
theorem test_feSent :
    let t := after .feSent (clocked 9 { up with port := { up.port with forward := [waiting], tx := .sendingForward [] 9 } , rx := { up.rx with freeBuffers := 15 } })
    t.port.tx = .gap 57 ∧ t.port.forward = [] ∧ t.rx.freeBuffers = 16 := by decide +kernel
/-- 2.7, ArbiterRatio 2: at credit 1 the frame goes and the credit is 2; at credit 2 the reply goes and the credit is 0. -/
theorem test_gapEnd :
    let s := { up with cfg := { up.cfg with arbiterRatio := 2 }, port := { up.port with forward := [waiting], replies := [replyTo hdr .reply (.fixed [0])], tx := .gap 0 } }
    let at' := fun n => after .gapEnd { s with port := { s.port with credit := n } }
    ((at' 1).port.credit, (at' 1).port.replies.length) = (2, 1) ∧ ((at' 2).port.credit, (at' 2).port.replies.length) = (0, 0) := by
  decide +kernel

/-! ## Witnesses: for each statement with hypotheses, a state and operands that meet them, clause by clause -/

/-- A state inside every invariant, with work under way: RUNNING, a repeating record due at the boundary that waits, a
frame being assembled, a frame being sent, a notice and its descriptor, a ring of two records, a pulse, LOCKED. -/
def busy (c : Instr) : State :=
  enabled { up with
    rx := { up.rx with state := .assembling ⟨[1, 2], 0, 0⟩, badCount := 8, freeBuffers := 14 }
    port := { up.port with forward := [waiting], replies := [noticeDesc], credit := 8, tx := .sendingForward [1] 40 }
    time := { up.time with offset := 4096, sync := .locked, outliers := 2, reference := some 7, syncTimer := some 9 }
    sched := { state := .running, curSlot := 0, free := (List.range 512).drop 1,
               wheel := [{ recordAt 0 1 with period := some 255, remaining := .times 65535, fired := 65535 }] }
    out := { up.out with chans := up.out.chans.set 3 { level := true, pulseEnd := some 5, lastTag := none } }
    cap := { up.cap with ring := ringOf [0xFFFF, 0], nextSeq := 1, highest := some 0 }
    faults := { latched := 1, active := 1 }
    notices := { queue := [notice1], outstanding := true }
    pending := [c] }

theorem witness_StepTakesFrontCommand : (busy .tick).pending = .tick :: [] ∧ up.pending = [] := ⟨rfl, rfl⟩

/-- A held part, and a command that is neither reset. -/
theorem witness_ResetHoldsThePart : { up with resetHeld := true }.resetHeld = true ∧ Instr.tick ≠ .resetNLow ∧
    ∀ straps inputs, Instr.tick ≠ .resetRelease straps inputs := ⟨rfl, nofun, nofun⟩

theorem witness_StepKeepsPoolWhole : (busy .slotBoundary).PoolWhole ∧ ∃ t, step (busy .slotBoundary) = .next t :=
  ⟨by unfold State.PoolWhole; decide +kernel, _, rfl⟩

theorem witness_StepKeepsWheelSound : (busy .slotBoundary).ListsFit ∧ (busy .slotBoundary).HaltedEmpty ∧
    (busy .slotBoundary).RecordsSound ∧ ∃ t, step (busy .slotBoundary) = .next t := by
  refine ⟨?_, ?_, ?_, _, rfl⟩
  · intro i; exact Nat.le_trans (List.length_filter_le _ _) (by decide)
  · intro h; cases h
  · intro r hr
    obtain rfl : r = { recordAt 0 1 with period := some 255, remaining := .times 65535, fired := 65535 } := List.mem_singleton.mp hr
    refine ⟨by decide, by decide, by decide, ?_, by decide⟩
    rintro n ⟨⟩; exact Nat.le_refl _

theorem witness_StepKeepsBuffersWhole : (busy .feSent).BuffersWhole ∧ (busy .feSent).SendsHead ∧ (busy .feSent).FramesFit ∧
    ∃ t, step (busy .feSent) = .next t := by
  refine ⟨?_, ?_, ?_, _, rfl⟩
  · unfold State.BuffersWhole; decide
  · simp [State.SendsHead, busy, enabled]
  · simp [State.FramesFit, busy, enabled, waiting, readFrame]

theorem witness_StepKeepsQueuesFit : (busy .slotBoundary).RepliesFit ∧ (busy .slotBoundary).NoticesFit ∧
    ∃ t, step (busy .slotBoundary) = .next t :=
  ⟨by unfold State.RepliesFit; decide, by unfold State.NoticesFit; decide, _, rfl⟩

theorem witness_StepKeepsRingConsecutive : (busy (.qualifiedEdge 0)).RingConsecutive ∧
    ∃ t, step (busy (.qualifiedEdge 0)) = .next t :=
  ⟨by unfold State.RingConsecutive; decide +kernel, _, rfl⟩

theorem witness_StepKeepsChannelsSound : (busy (.safe hdr)).PulsesActive ∧ (busy (.safe hdr)).FrozenStill ∧
    ∃ t, step (busy (.safe hdr)) = .next t :=
  ⟨by unfold State.PulsesActive; decide +kernel, nofun, _, rfl⟩

theorem witness_StepKeepsTableReachable :
    let s := busy (.writeAddress hdr 1 ⟨0xFE, 0, 4⟩)
    s.TableReachable ∧ ∃ t, step s = .next t := by
  have other : ∀ i : Fin 8, i ≠ 0 → (busy (.writeAddress hdr 1 ⟨0xFE, 0, 4⟩)).addr[i] = none := by decide +kernel
  have first : (busy (.writeAddress hdr 1 ⟨0xFE, 0, 4⟩)).addr[(0 : Fin 8)] = some here := by decide +kernel
  have only : ∀ (i : Fin 8) e, (busy (.writeAddress hdr 1 ⟨0xFE, 0, 4⟩)).addr[i] = some e → i = 0 := by
    intro i e h
    by_contra hi
    rw [other i hi] at h
    cases h
  refine ⟨⟨?_, ?_, 0, here, first, rfl⟩, _, rfl⟩
  · intro i e h
    obtain rfl := only i e h
    obtain rfl := Option.some.inj (first.symm.trans h)
    decide
  · intro i j e f hi hj _
    rw [only i e hi, only j f hj]

theorem witness_StepKeepsConfigInRange : (busy .fe).cfg.InRange ∧ (busy .fe).CreditFits ∧ (busy .fe).LineErrorsFollow ∧
    ∃ t, step (busy .fe) = .next t :=
  ⟨by unfold ConfigFields.InRange; decide, by unfold State.CreditFits; decide, by unfold State.LineErrorsFollow; decide, _, rfl⟩

theorem witness_StepKeepsSyncConsistent : (busy .syncTimeoutExpiry).SyncConsistent ∧
    ∃ t, step (busy .syncTimeoutExpiry) = .next t :=
  ⟨⟨by decide, by decide, rfl, by decide, by decide⟩, _, rfl⟩

theorem witness_StepKeepsOneMark :
    let s := { busy (.restart hdr 5) with port := { up.port with forward := [{ waiting with restartMark := true }] } }
    s.OneMark ∧ s.marks = 1 ∧ ∃ t, step s = .next t := ⟨by unfold State.OneMark; decide, by decide, _, rfl⟩

theorem witness_ProtectedRegisters : (∃ t, exec (.pulseExpiry 0) up = .next t) ∧ Instr.pulseExpiry 0 ≠ .resetNLow ∧
    (∀ straps inputs, Instr.pulseExpiry 0 ≠ .resetRelease straps inputs) ∧ Instr.pulseExpiry 0 ≠ .tick ∧
    Instr.pulseExpiry 0 ≠ .fe ∧ (∀ src arrival payload, Instr.pulseExpiry 0 ≠ .sync src arrival payload) ∧
    (∀ h, Instr.pulseExpiry 0 ≠ .claim h) ∧ ∀ h, Instr.pulseExpiry 0 ≠ .release h :=
  ⟨⟨_, rfl⟩, nofun, nofun, nofun, nofun, nofun, nofun, nofun⟩

theorem witness_FrozenHoldsLevels : (inState .frozen up).FrozenStill ∧ (inState .frozen up).sched.state = .frozen ∧
    (∃ t, exec .slotBoundary (inState .frozen up) = .next t) ∧ Instr.slotBoundary ≠ .resetNLow ∧
    (∀ straps inputs, Instr.slotBoundary ≠ .resetRelease straps inputs) ∧ Instr.slotBoundary ≠ .fe ∧
    Instr.slotBoundary ≠ .feSent ∧ Instr.slotBoundary ≠ .restartEffect ∧ (∀ h, Instr.slotBoundary ≠ .safe h) ∧
    (∀ h hops, Instr.slotBoundary ≠ .restart h hops) ∧ (∀ h n v, Instr.slotBoundary ≠ .writeChannel h n v) ∧
    ∀ h o i v, Instr.slotBoundary ≠ .write h o i v :=
  ⟨by unfold State.FrozenStill; decide +kernel, rfl, ⟨_, rfl⟩, nofun, nofun, nofun, nofun, nofun, nofun, nofun, nofun, nofun⟩

/-- A Dest of no entry; 8 replies waiting; a kind not permitted; an Src that is not the owner; and each malformed form. -/
theorem witness_RequestNotTakenDoesNothing :
    let away : ReqHeader := { hdr with dest := 0x77 }
    let full : State := { up with port := { up.port with replies := List.replicate 8 noticeDesc } }
    requestOf (.read away 1 0) = some (away, 0x30) ∧ away.dest ≠ 0xFF ∧ up.station away.dest = none ∧
    requestOf (.read hdr 1 0) = some (hdr, 0x30) ∧ hdr.dest ≠ 0xFF ∧ 8 ≤ full.port.replies.length ∧
    requestOf (.read { hdr with dest := 0x40 } 1 0) = some ({ hdr with dest := 0x40 }, 0x30) ∧
    (∃ e, node26.station 0x40 = some e ∧ kindPermitted e 0x30 = false) ∧
    requestOf (.claim { hdr with dest := 0x13 }) = some ({ hdr with dest := 0x13 }, 0x32) ∧
    (∃ e, node26.station 0x13 = some e) ∧ (kindOwned 0x32 = true ∧ node26.owner ≠ 0xFF ∧ node26.owner ≠ hdr.src) ∧
    (14 < (List.replicate 15 (descOfMode 2)).length ∧ ∃ d ∈ [descOfMode 3], d.modeFlags.toNat % 4 = 3) ∧
    (¬ ((2 : Octet) = 1 ∨ ((2 : Octet) = 2 ∧ (16 : Octet).toNat ≤ 15) ∨ (2 : Octet) = 3) ∧
      ¬ ((4 : Octet) = 1 ∨ ((4 : Octet) = 2 ∧ (0 : Octet).toNat ≤ 15) ∨ (4 : Octet) = 3)) ∧
    16 < (17 : Octet).toNat ∧ ObjectNamed 0x07 0 ∧
    [(1 : Octet), 2].length ≠ [5, 22, 2, 4, 6, 9, 1, 8, 10].getD ((0x07 : Octet).toNat - 1) 0 := by
  refine ⟨rfl, by decide, by decide +kernel, rfl, by decide, by decide, rfl, ⟨_, rfl, by decide⟩, rfl, ⟨_, rfl⟩, ?_, ?_, ?_, ?_, ?_, ?_⟩
  all_goals decide +kernel

theorem witness_ReceiverSettles : up.resetHeld = false ∧ up.rx.state = .settling 0 ∧ up.rx.inBreak = false ∧
    (clocked 24 up).At (0 + BitVec.ofNat 48 up.rate.charTicks) ∧ ¬ (clocked 23 up).At (0 + BitVec.ofNat 48 up.rate.charTicks) ∧
    { up with rx := { up.rx with inBreak := true } }.rx.inBreak = true ∧
    ∀ since, (receiving .hunting up).rx.state ≠ .settling since :=
  ⟨rfl, rfl, rfl, by decide, by decide, rfl, nofun⟩

/-- 16 and 0 free buffers; every state of the receiver; a break. -/
theorem witness_FsBeginsFrame :
    let empty : State := { up with rx := { up.rx with state := .skipping, freeBuffers := 0 } }
    up.resetHeld = false ∧ up.rx.inBreak = false ∧
    (receiving .hunting up).rx.state = .hunting ∧ 0 < (receiving .hunting up).rx.freeBuffers ∧
    empty.rx.state = .skipping ∧ empty.rx.freeBuffers = 0 ∧ (receiving (.assembling ⟨[], 0, 0⟩) up).rx.state = .assembling ⟨[], 0, 0⟩ ∧
    (receiving (.errored ⟨[], 0, 0⟩ .parity) up).rx.state = .errored ⟨[], 0, 0⟩ .parity ∧
    { up with rx := { up.rx with inBreak := true } }.rx.inBreak = true ∧ ∃ since, up.rx.state = .settling since :=
  ⟨rfl, rfl, rfl, by decide, rfl, rfl, rfl, rfl, rfl, 0, rfl⟩

/-- 248 and 249 octets stored; one character of each class. -/
theorem witness_CharactersOfAFrame : up.resetHeld = false ∧ (List.replicate 248 (0 : Octet)).length < 249 ∧
    249 ≤ (List.replicate 249 (0 : Octet)).length ∧
    (receiving (.assembling ⟨[], 0, 0⟩) up).rx.state = .assembling ⟨[], 0, 0⟩ ∧
    (⟨0, false, false, false⟩ : RawChar).stop = false ∧ ((charBits ⟨0, true, false, true⟩).count true - 1) % 2 = 1 ∧
    ((charBits ⟨0, true, true, true⟩).count true - 1) % 2 = 0 ∧ ((charBits ⟨0xA5, true, true, true⟩).count true - 1) % 2 = 0 ∧
    ((charBits ⟨0, false, false, true⟩).count true - 1) % 2 = 0 ∧ ∀ a, (receiving .hunting up).rx.state ≠ .assembling a :=
  ⟨rfl, (List.length_replicate ..).trans_lt (by decide), (List.length_replicate ..).ge, rfl, rfl, by decide, by decide, by decide, by decide, nofun⟩

theorem witness_BreakEndsFrame : up.resetHeld = false ∧ up.rx.inBreak = false ∧
    (receiving .hunting up).rx.state = .hunting ∧ (receiving (.assembling ⟨[], 0, 0⟩) up).rx.state = .assembling ⟨[], 0, 0⟩ ∧
    (receiving (.errored ⟨[], 0, 0⟩ .parity) up).rx.state = .errored ⟨[], 0, 0⟩ .parity ∧
    { up with rx := { up.rx with inBreak := true } }.rx.inBreak = true ∧ ∃ since, up.rx.state = .settling since :=
  ⟨rfl, rfl, rfl, rfl, rfl, rfl, 0, rfl⟩

/-- 8 octets; 9 octets with Length 1; a whole frame with a changed Mark; the other states. -/
theorem witness_FeDiscardsBadFrame :
    let nine : List Octet := [1, 2, 3, 4, 5, 6, 1, 8, 9]
    let bad := readFrame.withCrc.set 5 1
    up.resetHeld = false ∧ (List.replicate 8 (0 : Octet)).length < 9 ∧ 9 ≤ nine.length ∧ (nine.getD 6 0).toNat ≠ nine.length - 9 ∧
    9 ≤ bad.length ∧ (bad.getD 6 0).toNat = bad.length - 9 ∧
    crcOf (bad.take (bad.length - 2)) ≠ bad.getD (bad.length - 2) 0 ++ bad.getD (bad.length - 1) 0 ∧
    (receiving (.assembling ⟨bad, 0, 0⟩) up).rx.state = .assembling ⟨bad, 0, 0⟩ ∧
    (receiving (.errored ⟨[], 0, 0⟩ .parity) up).rx.state = .errored ⟨[], 0, 0⟩ .parity ∧
    (receiving .skipping up).rx.state = .skipping ∧ (receiving .hunting up).rx.state = .hunting ∧
    ∃ since, up.rx.state = .settling since :=
  ⟨rfl, by decide, by decide, by decide, by decide +kernel, by decide +kernel, by decide +kernel, rfl, rfl, rfl, rfl, 0, rfl⟩

/-- The longest payload, 240 octets. -/
theorem witness_SentFrameIsReceivedAsItself :
    let f : Frame := { readFrame with payload := List.replicate 240 7 }
    let a : Assembly := ⟨f.withCrc, 5, 0⟩
    up.resetHeld = false ∧ f.payload.length ≤ 240 ∧ (receiving (.assembling a) up).rx.state = .assembling a ∧ a.octets = f.withCrc :=
  ⟨rfl, (List.length_replicate ..).le, rfl, rfl⟩

theorem witness_CrcDetectsOneOctet : (0x00 : Octet) ≠ 0x01 := by decide

/-- The frames of 2.6: an own REPLY; a broadcast of another kind; a SYNC from another source and one
of 10 octets; a broadcast CONTROL of CLEAR_WHEEL and one from an Src not authorised; a Dest of no entry; and to entries,
each outcome. -/
theorem witness_ClassifyDisposes :
    let e13 : Station := { here with address := 0x13 }
    let e40 : Station := { address := 0x40, mask := 0xFF00, sched := true, capt := false, mgmt := false }
    let reply := arriving 0x00 0x13 0x80 0 [0]
    let other := arriving 0xFF 0x05 0x31 0 []
    let away := arriving 0x77 0x05 0x30 0 [1, 0]
    let busy26 : State := { node26 with port := { node26.port with replies := List.replicate 8 noticeDesc } }
    (0x80 ≤ reply.frame.kind.toNat ∧ ∃ e, node26.addr[0] = some e ∧ e.address = reply.frame.src) ∧
    (other.frame.kind.toNat < 0x80 ∧ other.frame.dest = 0xFF ∧ other.frame.kind ≠ 0x01 ∧ other.frame.kind ≠ 0x32) ∧
    ((0x05 : Octet) ≠ node26.cfg.timeSource ∧ (List.replicate 10 (0 : Octet)).length ≠ 11) ∧
    ([(5 : Octet)] ∉ [[(1 : Octet)], [2], [3], [4], [6]] ∧ node26.owner ≠ 0xFF ∧ node26.owner ≠ 0x05) ∧
    (away.frame.dest ≠ 0xFF ∧ node26.station away.frame.dest = none) ∧
    (node26.station 0x13 = some e13 ∧ node26.station 0x40 = some e40 ∧ busy26.station 0x13 = some e13) ∧
    (arriving 0x13 0x00 0x10 1 []).frame.mark ≠ 0 ∧ (0x41 : Octet) ∉ [(0x10 : Octet), 0x11, 0x20, 0x30, 0x31, 0x32] ∧
    ((0x31 : Octet) ∈ [(0x30 : Octet), 0x31, 0x32] ∧ e40.mgmt = false) ∧
    ((0x32 : Octet) ∈ [(0x31 : Octet), 0x32] ∧ e13.mgmt = true ∧ node26.owner ≠ 0xFF ∧ node26.owner ≠ 0x07) ∧
    (e13.capt = true ∧ (0x20 : Octet) ∉ [(0x31 : Octet), 0x32] ∧ parseRequest 0x20 [0] = none) ∧
    ((∃ r, parseRequest 0x20 [0, 0, 0, 16] = some r ∧ r.wellFormed = true) ∧ 8 ≤ busy26.port.replies.length) := by
  refine ⟨⟨by decide, _, rfl, by decide⟩, by decide, by decide +kernel, by decide +kernel, by decide +kernel, by decide +kernel, by decide, by decide, by decide, by decide,
    by decide, ⟨_, rfl, by decide⟩, by decide⟩

/-- A READ to 0x10, a SYNC from TimeSource, a broadcast SAFE. -/
theorem witness_FePerformsTheRow :
    up.resetHeld = false ∧ readFrame.kind.toNat < 0x80 ∧
    up.Takes { dest := readFrame.dest, src := readFrame.src, seq := readFrame.seq } readFrame.kind here ∧ readFrame.mark = 0 ∧
    requestKind readFrame.kind = true ∧ parseRequest readFrame.kind readFrame.payload = some (.read 1 0) ∧
    (Request.read 1 0).wellFormed = true ∧ (∃ c, readFrame.row 5 = some c) ∧
    (arriving 0xFF 0x00 0x01 0 (syncPayload 5)).frame.src = up.cfg.timeSource ∧ (syncPayload 5).length = 11 ∧
    ∃ c, (arriving 0xFF 0x05 0x32 0 [4]).frame.row 5 = some c := by
  refine ⟨rfl, by decide, by decide +kernel, rfl, by decide, by decide, rfl, ⟨_, rfl⟩, by decide, by decide, ⟨_, rfl⟩⟩

/-- The last index of CONFIG and the one after it; entries held and EMPTY; a pulse at its end, before it, and none. -/
theorem witness_ReadAnswers : up.Takes hdr 0x30 here ∧ ObjectNamed 0x03 23 ∧ ¬ ObjectNamed 0x03 24 ∧
    up.cfg.responses.toList[7]? = some .note ∧ up.addr[7] = none ∧ up.addr[0] = some here ∧
    (busy .tick).out.chans[3].pulseEnd = some 5 ∧ (clocked 5 (busy .tick)).At 5 ∧ ¬ (clocked 4 (busy .tick)).At 5 ∧
    up.out.chans[0].pulseEnd = none := by decide +kernel

/-- MaxCount 1 and 16; AckSeq at HighestReported, and one beyond it; AckValid clear. -/
theorem witness_PollAcknowledges :
    let s : State := { up with cap := { up.cap with ring := ringOf [0xFFFF, 0, 1], nextSeq := 2, highest := some 0 } }
    s.Takes hdr 0x20 here ∧ 1 ≤ (1 : Octet).toNat ∧ (16 : Octet).toNat ≤ 16 ∧
    s.cap.ring = { seq := 0xFFFF, line := 0, edge := .rising, time := 0, sync := .locked, gap := false } :: ringOf [0, 1] ∧
    (1 : Octet).getLsbD 0 = true ∧ s.cap.InReportedSpan 0 ∧ ¬ s.cap.InReportedSpan 1 ∧ (0 : Octet).getLsbD 0 = false := by
  refine ⟨by decide +kernel, by decide, by decide, rfl, by decide, ⟨0, rfl, _, rfl, by decide, by decide⟩, ?_, by decide⟩
  rintro ⟨g, ⟨⟩, o, ⟨⟩, -, h⟩
  revert h; decide

/-- For each check of R86 in its order: a variant of 5.6's node, its entry 0x13, and a descriptor that fails it first. -/
def failing : List (State × Station × Descriptor) :=
  let e : Station := { here with address := 0x13 }
  let e' : Station := { e with mask := 0xFFEF }
  let d : Descriptor := { channel := 4, action := 4, modeFlags := 2, period := 0, target := 6, width := 40000, tag := 31, count := 1 }
  [(node56, e, { d with channel := 16 }), ({ node56 with addr := node56.addr.set 0 (some e') }, e', d),
   ({ node56 with out := up.out }, e, d), (node56, e, { d with action := 5 }), (node56, e, { d with width := 40001 }),
   (node56, e, { d with count := 0 }), ({ node56 with time := { node56.time with sync := .acquiring } }, e, { d with modeFlags := 0 }),
   ({ node56 with time := { node56.time with reference := none } }, e, { d with modeFlags := 1 }),
   (node56, e, { d with target := 2 }), (node56, e, { d with target := 202 }),
   ({ node56 with sched := { node56.sched with free := [] } }, e, d),
   ({ node56 with sched := { node56.sched with wheel := node56.sched.wheel ++ [recordAt 300 20005, recordAt 301 20261] } }, e, d)]

/-- Each of `failing` is a taken SCHEDULE, not HALTED, whose descriptor has no Mode of 3. -/
theorem witness_ScheduleChecksInOrder : ∀ c ∈ failing, c.1.Takes hdr13 0x10 c.2.1 ∧ c.1.sched.state ≠ .halted ∧
    c.2.2.modeFlags.toNat % 4 ≠ 3 := by decide +kernel

/-- The k-th of `failing` fails check k and none before it. -/
theorem witness_ScheduleChecksInOrder_first : ∀ k (hk : k < checkOrder.length),
    failing[k].1.Fails failing[k].2.1 19999 failing[k].2.2 checkOrder[k] ∧
    ∀ j (hj : j < checkOrder.length), j < k → ¬ failing[k].1.Fails failing[k].2.1 19999 failing[k].2.2 checkOrder[j] := by
  intro k hk
  have h12 : k < 12 := hk
  refine ⟨?_, ?_⟩
  · interval_cases k <;> (simp only [checkOrder, List.getElem_cons_succ, List.getElem_cons_zero, State.Fails]; revert hk; decide +kernel)
  · intro j hj hjk
    interval_cases k <;> interval_cases j <;>
      (simp only [checkOrder, List.getElem_cons_succ, List.getElem_cons_zero, State.Fails]; revert hk; decide +kernel)

/-- D0 of 5.6 fails no check, with records free; and a HALTED part with 14 descriptors. -/
theorem witness_ScheduleChecksInOrder_none :
    (∀ r, ¬ node56.Fails { here with address := 0x13 } 19999 (descs56.headD (descOfMode 2)) r) ∧
    (∃ id rest, node56.sched.free = id :: rest) ∧ up.sched.state = .halted ∧ up.Takes hdr 0x10 here ∧
    (List.replicate 14 (descOfMode 2)).length ≤ 14 := by
  refine ⟨?_, ⟨_, _, rfl⟩, rfl, by decide +kernel, by decide⟩
  intro r
  cases r <;> (simp only [State.Fails]; decide +kernel)

/-- The four descriptors of 5.6; the one-descriptor clauses have the witnesses of ScheduleChecksInOrder. -/
theorem witness_ScheduleAdmitsEach : node56.sched.state ≠ .halted ∧ (0xFE : Octet).getLsbD 0 = false ∧
    node56.Takes hdr13 0x10 { here with address := 0x13 } ∧ descs56.length = 4 ∧
    (∀ d ∈ descs56, d.modeFlags.toNat % 4 ≠ 3) ∧ slotOf node56.cfg.slotExp 81915904 = 19999 := by decide +kernel

/-- 1 and 14 descriptors, in a state whose pool is whole: 14 that are accepted; one that is accepted and one TOO_EARLY. -/
theorem witness_ScheduleAtomicIsAllOrNothing :
    let s := busy .tick
    s.Takes hdr 0x10 here ∧ s.PoolWhole ∧ s.sched.state ≠ .halted ∧ (1 : Octet).getLsbD 0 = true ∧
    1 ≤ [descOfMode 2].length ∧ (List.replicate 14 (descOfMode 2)).length ≤ 14 ∧
    (∀ d ∈ List.replicate 14 (descOfMode 2), d.modeFlags.toNat % 4 ≠ 3) ∧
    (∀ r ∈ (s.takeSchedule 5 0xFFFF 4096 0 (List.replicate 14 (descOfMode 2))).1, r = DescResult.accepted) ∧
    (s.takeSchedule 5 0xFFFF 4096 0 [descOfMode 2, { descOfMode 2 with target := 0 }]).1 = [.accepted, .tooEarly] :=
  ⟨by decide +kernel, witness_StepKeepsPoolWhole.1, by decide, by decide, by decide, by decide, by decide +kernel,
   by decide +kernel, by decide +kernel⟩

/-- Each Selector, channel 15, and a record that matches with Report clear and with Report set. -/
theorem witness_CancelRemovesTheMatches :
    let s := busy .tick
    s.Takes hdr 0x11 here ∧ s.PoolWhole ∧ ((1 : Octet) = 1 ∨ ((2 : Octet) = 2 ∧ (15 : Octet).toNat ≤ 15) ∨ (3 : Octet) = 3) ∧
    (s.sched.wheel.filter fun r => Cancels here 1 31 0 r).length = 1 ∧
    (∀ r ∈ s.sched.wheel.filter fun r => Cancels here 1 31 0 r, r.report = false) ∧
    (after (.cancel hdr 1 31 0) { up with sched := { s.sched with wheel := [{ recordAt 0 1 with report := true }] } }).notices.queue
      = [{ overflow := false, body := .completion 31 4 .cancelled (.line 5) 0 0 }] :=
  ⟨by decide +kernel, witness_StepKeepsPoolWhole.1, by decide, by decide +kernel, by decide +kernel, by decide +kernel⟩

/-- Objects that do not exist, read-only objects, each object with a write behaviour at its last index, and a length one
too long. -/
theorem witness_WriteNamesItsObject : up.Takes hdr 0x31 here ∧ ¬ ObjectNamed 0x00 0 ∧ ¬ ObjectNamed 0x0A 0 ∧
    ObjectNamed 0x01 0 ∧ ObjectNamed 0x02 0 ∧ ObjectNamed 0x08 15 ∧ ObjectNamed 0x03 23 ∧ ObjectNamed 0x04 7 ∧
    ObjectNamed 0x05 15 ∧ ObjectNamed 0x06 7 ∧ ObjectNamed 0x07 0 ∧ ObjectNamed 0x09 0 ∧
    (List.replicate 22 (0 : Octet)).length = 22 ∧
    [(1 : Octet), 2].length ≠ [5, 22, 2, 4, 6, 9, 1, 8, 10].getD ((0x07 : Octet).toNat - 1) 0 := by
  refine ⟨by decide +kernel, ?_, ?_, ?_, ?_, ?_, ?_, ?_, ?_, ?_, ?_, ?_, ?_, ?_⟩ <;> decide

/-- Index 23 and 24; SlotExp 16 and 17, and the 12 it holds, HALTED and not; LineErrorLimit 255; Window at Lead. -/
theorem witness_WriteConfigSetsOneField : up.Takes hdr 0x31 here ∧ 24 ≤ (24 : Octet).toNat ∧ ConfigRange up.cfg 23 1 ∧
    (ConfigRange up.cfg 0 16 ∧ (16 : Half).toNat ≠ up.cfg.slotExp) ∧
    (ConfigRange up.cfg 0 12 ∧ (12 : Half).toNat = up.cfg.slotExp) ∧ ¬ ConfigRange up.cfg 0 17 ∧ ConfigRange up.cfg 10 255 ∧ ConfigRange up.cfg 2 2 ∧
    ¬ ConfigRange up.cfg 2 1 ∧ up.sched.state = .halted ∧ (inState .running up).sched.state ≠ .halted ∧
    (inState .running up).Takes hdr 0x31 here := by
  refine ⟨by decide +kernel, ?_, ?_, ?_, ?_, ?_, ?_, ?_, ?_, ?_, ?_, by decide +kernel⟩ <;> decide

/-- 0xFF; the Address of another entry; entry 0 emptied alone; a good entry. -/
theorem witness_WriteAddressKeepsTheRules : up.Takes hdr 0x31 here ∧
    ((7 : Octet).getLsbD 7 = false ∧ (0xFF : Octet) = 0xFF) ∧ (∃ m : Fin 8, m ≠ 1 ∧ ∃ g, up.addr[m] = some g ∧ g.address = 0x10) ∧
    (0x80 : Octet).getLsbD 7 = true ∧ (∀ m : Fin 8, (up.addr.set 0 none)[m] = none) ∧
    (0xFE : Octet) ≠ 0xFF ∧ ∃ (m : Fin 8) (g : Station), (up.addr.set 1 (some { here with address := 0xFE }))[m] = some g ∧ g.mgmt = true :=
  ⟨by decide +kernel, by decide, ⟨0, by decide, here, by decide +kernel, rfl⟩, by decide, by decide +kernel, by decide,
   1, { here with address := 0xFE }, by decide +kernel, rfl⟩

/-- SafeLevel 3 and 2, MaxPulse 0 and 1, Enabled from on to off and the other changes. -/
theorem witness_WriteChannelReplacesTheEntry : (enabled up).Takes hdr 0x31 here ∧ 2 < (3 : Octet).toNat ∧ (2 : Octet).toNat ≤ 2 ∧
    (1 : Width) ≠ 0 ∧ (enabled up).out.table[15].enabled = true ∧ (2 : Octet).getLsbD 0 = false ∧ up.out.table[0].enabled = false ∧
    (1 : Octet).getLsbD 0 = true := by decide +kernel

/-- Line 7 and 8, Edge 3 and 4, Channel 15 and 16, Action 4 and 5, Delay 1 and 0. -/
theorem witness_WriteTriggerAndCaptureConfig :
    let bad : TriggerValue → Bool := fun v => 8 ≤ v.line.toNat ∨ v.edge = 0 ∨ 4 ≤ v.edge.toNat ∨ 16 ≤ v.channel.toNat ∨
      v.action = 0 ∨ 5 ≤ v.action.toNat ∨ v.width = 0 ∨ v.delay = 0
    up.Takes hdr 0x31 here ∧ bad ⟨7, 7, 3, 15, 4, 1, 1⟩ = false ∧ bad ⟨7, 8, 3, 15, 4, 1, 1⟩ = true ∧
    bad ⟨7, 7, 4, 15, 4, 1, 1⟩ = true ∧ bad ⟨7, 7, 3, 16, 4, 1, 1⟩ = true ∧ bad ⟨7, 7, 3, 15, 5, 1, 1⟩ = true ∧
    bad ⟨7, 7, 3, 15, 4, 1, 0⟩ = true ∧ (∃ n : Fin 8, (#v[1, 1, 1, 1, 1, 1, 1, (4 : Octet)])[n] = 4) ∧
    ∀ n : Fin 8, (#v[1, 2, 3, 1, 2, 3, 1, (3 : Octet)])[n] ≠ 0 ∧ (#v[1, 2, 3, 1, 2, 3, 1, (3 : Octet)])[n].toNat < 4 := by
  decide +kernel

theorem witness_WriteFaultAcknowledges : (faulty 0xFF 0x09 up).Takes hdr 0x31 here := by decide +kernel

/-- HALTED, RUNNING and FROZEN, with SYNC_LOST latched and without. -/
theorem witness_StartResumeAndHalt : up.Takes hdr 0x32 here ∧ up.sched.state = .halted ∧ ¬ up.FreezeLatched ∧
    (inState .frozen (faulty 8 0 up)).Takes hdr 0x32 here ∧ (inState .frozen (faulty 8 0 up)).FreezeLatched ∧
    (inState .frozen up).sched.state = .frozen ∧ ¬ (inState .frozen up).FreezeLatched ∧ (inState .running up).sched.state ≠ .halted := by
  decide +kernel

theorem witness_ClearWheelFreesAll : (busy .tick).Takes hdr 0x32 here ∧ (busy .tick).sched.state ≠ .halted ∧
    up.Takes hdr 0x32 here ∧ up.sched.state = .halted ∧ allHdr.dest = 0xFF := by decide +kernel

theorem witness_SafeDrivesEveryChannel : up.Takes hdr 0x32 here ∧ up.sched.state = .halted ∧
    (inState .running up).Takes hdr 0x32 here ∧ (inState .running up).sched.state = .running ∧
    (inState .frozen up).sched.state = .frozen := by decide +kernel

/-- Unclaimed, with Src 0x05 and 0xFF; claimed by the Src; claimed by another; broadcast. -/
theorem witness_ClaimSetsTheOwner :
    up.Takes hdr 0x32 here ∧ up.owner = 0xFF ∧ hdr.src ≠ 0xFF ∧ up.Takes { hdr with src := 0xFF } 0x32 here ∧
    { up with owner := 0x05 }.Takes hdr 0x32 here ∧ allHdr.dest = 0xFF ∧ hdr.dest ≠ 0xFF ∧
    ({ up with owner := 0x06 }.owner ≠ 0xFF ∧ { up with owner := 0x06 }.owner ≠ hdr.src) ∧ here.mgmt = true := by decide +kernel

theorem witness_ReleaseClearsTheOwner :
    { up with owner := 0x05 }.Takes hdr 0x32 here ∧ { up with owner := 0x05 }.owner = hdr.src ∧ up.Takes hdr 0x32 here ∧
    up.owner = 0xFF ∧ (∃ t, exec (.release hdr) up = .next t) ∧ allHdr.dest = 0xFF ∧ hdr.dest ≠ 0xFF ∧
    ({ up with owner := 0x06 }.owner ≠ 0xFF ∧ { up with owner := 0x06 }.owner ≠ hdr.src) :=
  ⟨by decide +kernel, rfl, by decide +kernel, rfl, ⟨_, rfl⟩, rfl, by decide, by decide⟩

/-- Authorised, as the owner and while unclaimed; each scheduler state, a FREEZE fault latched and not; not authorised. -/
theorem witness_BroadcastControlActs :
    let s := { busy .tick with owner := 0x05 }
    s.resetHeld = false ∧ allHdr.dest = 0xFF ∧ s.owner = allHdr.src ∧ up.owner = 0xFF ∧ hdr.src = allHdr.src ∧
    s.Takes hdr 0x32 here ∧ (∃ t, exec (.safe allHdr) s = .next t) ∧ (∃ u, exec (.safe hdr) s = .next u) ∧
    (up.sched.state = .halted ∧ ¬ up.FreezeLatched ∧ (faulty 8 0 up).FreezeLatched) ∧
    ((inState .frozen up).sched.state = .frozen ∧ ¬ (inState .frozen up).FreezeLatched) ∧ s.sched.state = .running ∧
    ({ up with owner := 0x06 }.owner ≠ 0xFF ∧ { up with owner := 0x06 }.owner ≠ allHdr.src) :=
  ⟨rfl, rfl, rfl, rfl, rfl, by decide +kernel, ⟨_, rfl⟩, ⟨_, rfl⟩, by decide +kernel, by decide +kernel, rfl, by decide⟩

/-- No buffer; unicast and broadcast; a mark held and none; each transmitter state; an Src not authorised. -/
theorem witness_RestartIsMarked :
    let marked : State := { up with port := { up.port with forward := [{ waiting with restartMark := true }] } }
    up.resetHeld = false ∧ { up with rx := { up.rx with freeBuffers := 0 } }.rx.freeBuffers = 0 ∧ 0 < up.rx.freeBuffers ∧
    up.Takes hdr 0x32 here ∧ up.marks = 0 ∧ marked.marks ≠ 0 ∧ marked.Takes hdr 0x32 here ∧ allHdr.dest = 0xFF ∧
    (up.owner = 0xFF ∨ up.owner = allHdr.src) ∧ ({ up with owner := 0x06 }.owner ≠ 0xFF ∧ { up with owner := 0x06 }.owner ≠ allHdr.src) ∧
    (1 : Octet) ≠ 0 ∧
    (sending (.sendingReply [] 0 false) up).port.tx = .sendingReply [] 0 false ∧ (sending (.sendingReply [] 0 false) up).marks = 0 ∧
    ((busy .tick).port.tx = .sendingForward [1] 40 ∧ (busy .tick).port.forward = waiting :: [] ∧ (busy .tick).marks = 0) ∧
    ∃ ends, up.port.tx = .gap ends :=
  ⟨rfl, rfl, by decide, by decide +kernel, by decide, by decide, by decide +kernel, rfl, by decide, by decide, by decide, rfl, by decide,
   ⟨rfl, rfl, by decide⟩, _, rfl⟩

theorem witness_RestartTakesEffect :
    let fwd : State := { clocked 9 up with port := { up.port with forward := [{ waiting with restartMark := true }], tx := .sendingForward [] 9 } }
    up.resetHeld = false ∧ fwd.At 9 ∧ (fwd.port.tx = .sendingForward [] 9 ∧ ∃ f rest, fwd.port.forward = f :: rest ∧ f.restartMark = true) ∧
    (sending (.sendingReply [] 0 true) up).port.tx = .sendingReply [] 0 true ∧ (sending (.sendingReply [] 0 true) up).At 0 :=
  ⟨rfl, by decide, ⟨rfl, _, _, rfl, rfl⟩, rfl, by decide⟩

theorem witness_SlotNumbersCountSlots : (8 ≤ 8 ∧ 8 ≤ 16) ∧ (8 ≤ 16 ∧ 16 ≤ 16) := by decide

theorem witness_TickAndInputsAreSampled : up.resetHeld = false ∧ up.cap.sampled = false ∧ sampled.cap.sampled = true ∧
    ∃ t, exec .tick sampled = .next t := ⟨rfl, rfl, rfl, _, rfl⟩

/-- At PulseEnd, one tick before it, and no pulse. -/
theorem witness_ActionsAndPulsesOnChannels :
    up.resetHeld = false ∧ (busy .tick).out.chans[3].pulseEnd = some 5 ∧ (clocked 5 (busy .tick)).At 5 ∧
    ¬ (clocked 4 (busy .tick)).At 5 ∧ up.out.chans[0].pulseEnd = none := by decide +kernel

/-- Another source; 10 octets; each sync state with an error of StepLimit and of one more; outlier counts 1 and 2; an error of 0 and of
400, each with line time in a slot beyond the current one, and an error of 400 within the current slot. -/
theorem witness_SyncStateMachine :
    let inSync : SyncState → Nat → State := fun st k => { up with time := { up.time with sync := st, outliers := k } }
    up.resetHeld = false ∧ (0x01 : Octet) ≠ up.cfg.timeSource ∧ (List.replicate 10 (0 : Octet)).length ≠ 11 ∧
    (0x00 : Octet) = up.cfg.timeSource ∧ (-(up.cfg.stepLimit : Int) ≤ (400 : Ticks).toInt ∧ (400 : Ticks).toInt ≤ up.cfg.stepLimit) ∧
    ¬ (-(up.cfg.stepLimit : Int) ≤ (401 : Ticks).toInt ∧ (401 : Ticks).toInt ≤ up.cfg.stepLimit) ∧
    up.time.sync = .unsynced ∧ (inSync .acquiring 0).time.sync = .acquiring ∧
    ((inSync .locked 1).time.sync = .locked ∧ (inSync .locked 1).time.outliers < 2) ∧ 2 ≤ (inSync .locked 2).time.outliers ∧
    (inSync .holdover 0).time.sync = .holdover ∧
    (slotOf 12 ((atLine 4096 up).lineTime + 0) ≠ (atLine 4096 up).sched.curSlot ∧ (400 : Ticks) ≠ 0 ∧
      slotOf 12 ((atLine 4096 up).lineTime + 400) ≠ (atLine 4096 up).sched.curSlot ∧
      slotOf 12 (up.lineTime + 400) = up.sched.curSlot) := by decide +kernel

/-- At the instant, one tick before it, and stopped. -/
theorem witness_SyncTimersExpire :
    let s : State := { clocked 9 up with time := { up.time with localCount := 9, sync := .holdover, syncTimer := some 9, holdoverTimer := some 9 } }
    s.resetHeld = false ∧ s.time.syncTimer = some 9 ∧ s.At 9 ∧ ¬ s.At 10 ∧ s.time.holdoverTimer = some 9 ∧ s.time.sync = .holdover ∧
    { s with time := { s.time with sync := .acquiring } }.time.sync = .acquiring ∧
    { s with time := { s.time with sync := .locked } }.time.sync = .locked ∧ up.time.syncTimer = none ∧ up.time.holdoverTimer = none := by
  decide +kernel

/-- 31 and 32 notices; a latched flag and a clear one; FaultNotices on and off; outcomes; a count at its limit. -/
theorem witness_OffersAndRaises :
    let full : State := { up with notices := { queue := List.replicate 32 notice1, outstanding := false } }
    { up with notices := { queue := List.replicate 31 notice1, outstanding := false } }.notices.queue.length < 32 ∧
    (full.notices.queue = List.replicate 31 notice1 ++ [notice1] ∧ 32 ≤ full.notices.queue.length) ∧
    (faulty 0x80 0 full).faults.latched.getLsbD 7 = true ∧ full.faults.latched.getLsbD 7 = false ∧
    up.faults.latched.getLsbD FaultKind.syncLost.code.val = false ∧ (faulty 8 0 up).faults.latched.getLsbD FaultKind.syncLost.code.val = true ∧
    up.cfg.faultNotices = true ∧ { up with cfg := { up.cfg with faultNotices := false } }.cfg.faultNotices = false ∧
    ((recordAt 0 1).report = false ∧ ActionOutcome.late ∈ [ActionOutcome.late, .suppressed, .disabled, .expired, .dropped]) ∧
    up.cfg.reportAbnormal = true ∧ ActionOutcome.done ∉ [ActionOutcome.late, .suppressed, .disabled, .expired, .dropped] ∧
    (busy .tick).cfg.lineErrorLimit ≤ (busy .tick).rx.badCount ∧ (busy .tick).faults.active.getLsbD 0 = true ∧
    (faulty 0 0 (busy .tick)).faults.active.getLsbD 0 = false ∧ up.rx.badCount < up.cfg.lineErrorLimit := by decide +kernel

/-- SlotExp 8 and 16; no boundary and a boundary; nothing due. -/
theorem witness_SlotBoundaryReleases :
    let at' : Nat → SlotNo → State := fun k n => atLine 65536 (withWheel n [recordAt 7 1] { up with cfg := { up.cfg with slotExp := k } })
    up.resetHeld = false ∧ (slotOf up.cfg.slotExp up.lineTime - up.sched.curSlot).toInt < 1 ∧
    (1 ≤ (slotOf 8 (at' 8 255).lineTime - (at' 8 255).sched.curSlot).toInt ∧ 8 ≤ (at' 8 255).cfg.slotExp) ∧
    (1 ≤ (slotOf 16 (at' 16 0).lineTime - (at' 16 0).sched.curSlot).toInt ∧ (at' 16 0).cfg.slotExp ≤ 16) ∧
    (∀ r ∈ (at' 8 255).sched.wheel, r.due ≠ 256) := by decide +kernel

/-- Three records due at the slot, the middle one repeating: the walk is not empty, and every turn has its record. -/
theorem witness_SlotBoundaryReleases_walk :
    let r := { r21 with due := 1 }
    let s := atLine 4096 (withWheel 0 [recordAt 8 1, r, recordAt 7 1, recordAt 9 3] up)
    s.sched.state ≠ .halted ∧ up.sched.state = .halted ∧ 1 ≤ (slotOf s.cfg.slotExp s.lineTime - s.sched.curSlot).toInt ∧
    ((s.sched.wheel.filter fun r => r.due = 1).map ActionRecord.id) = [8, 21, 7] ∧
    (s.sched.wheel = [recordAt 8 1] ++ r :: [recordAt 7 1, recordAt 9 3] ∧ (∀ x ∈ [recordAt 8 1], x.id ≠ r.id)) ∧
    (r.period = some 3 ∧ r.remaining ≠ .times 1 ∧ r.remaining ≠ .times 0 ∧ (recordAt 8 1).remaining = .times 1) := by decide +kernel

/-- A single record due: spent (among others not due), to be relinked, and to be dropped by a list of 32. -/
theorem witness_SlotBoundaryReleases_due :
    let r := { r21 with due := 5007, remaining := .times 9, fired := 1 }
    let others := (List.range 32).map fun i => recordAt (200 + i) 5010
    let spent := atLine 4096 (withWheel 0 [recordAt 8 2, recordAt 7 1, recordAt 9 3] up)
    let full := atLine (5007 * 4096) (withWheel 5006 (r :: others) up)
    (spent.sched.state ≠ .halted ∧ spent.sched.wheel = [recordAt 8 2] ++ recordAt 7 1 :: [recordAt 9 3] ∧
      (recordAt 7 1).due = spent.sched.curSlot + 1 ∧
      (∀ x ∈ [recordAt 8 2] ++ [recordAt 9 3], x.due ≠ spent.sched.curSlot + 1 ∧ x.id ≠ 7) ∧ (recordAt 7 1).remaining = .times 1) ∧
    (full.sched.wheel = [] ++ r :: others ∧ r.due = full.sched.curSlot + 1 ∧
      (∀ x ∈ [] ++ others, x.due ≠ full.sched.curSlot + 1 ∧ x.id ≠ r.id) ∧ r.remaining ≠ .times 1 ∧ r.remaining ≠ .times 0 ∧
      r.period = some 3 ∧ 32 ≤ (others.filter fun x => x.due.toNat % 256 = (5010 : SlotNo).toNat % 256).length ∧
      ((others.drop 1).filter fun x => x.due.toNat % 256 = (5010 : SlotNo).toNat % 256).length < 32) := by decide +kernel

theorem witness_NothingDueIsLeftBehind :
    let s := busy .tick
    s.PoolWhole ∧ s.RecordsSound ∧ s.sched.state ≠ .halted ∧ s.resetHeld = false ∧
    1 ≤ (slotOf s.cfg.slotExp s.lineTime - s.sched.curSlot).toInt ∧ (∃ t, exec .slotBoundary s = .next t) ∧
    (1 ≤ (1 - s.sched.curSlot).toInt ∧ (0 - s.sched.curSlot).toInt < 1) ∧
    ((6 - s.sched.curSlot).toInt = (6 : Nat) ∧ 6 - 1 = s.cfg.catchUpLimit + 1) :=
  ⟨witness_StepKeepsPoolWhole.1, witness_StepKeepsWheelSound.2.2.1, by decide, rfl, by decide +kernel, ⟨_, rfl⟩, by decide,
   by decide +kernel⟩

/-- One passed record, in each scheduler state and on each kind of channel: its last firing; a step to 5010 of R-21, due at
5004 with Period 3, m = 3: spent by 2 skips with Remaining 3, kept with 4; a full list at 5013 and one with a place. -/
theorem witness_NothingDueIsLeftBehind_passed :
    let spent : ActionRecord := { r21 with remaining := .times 3 }
    let kept : ActionRecord := { r21 with remaining := .times 4 }
    let others : List ActionRecord := (List.range 32).map fun i => recordAt (200 + i) 5013
    ((withWheel 5003 [recordAt 7 5004] up).sched.wheel = [] ++ recordAt 7 5004 :: [] ∧ (recordAt 7 5004).remaining = .times 1) ∧
    ((withWheel 5003 (others ++ [kept]) up).sched.wheel = others ++ kept :: [] ∧ (∀ x ∈ others, x.id ≠ kept.id)) ∧
    (r21.period = some 3 ∧ (5010 - r21.due).toNat / 3 + 1 = 3) ∧ (spent.remaining = .times 3 ∧ 3 - 1 ≤ 3 - 1) ∧
    (kept.remaining = .times 4 ∧ ¬ 4 - 1 ≤ 3 - 1) ∧
    32 ≤ (others.filter fun x => x.due.toNat % 256 = (5013 : SlotNo).toNat % 256).length ∧
    ((others.drop 1).filter fun x => x.due.toNat % 256 = (5013 : SlotNo).toNat % 256).length < 32 ∧
    (inState .frozen up).sched.state ≠ .running ∧ (enabled up).out.table[5].enabled = true ∧ up.out.table[5].enabled = false := by
  decide +kernel

/-- 8.9's node: one tick before the candidate's end and at it; no candidate; a ring of 63 and 64; one entry matches. -/
theorem witness_QualifiedEdgeStoresAndTriggers :
    let one : State := { node89 with cap := { node89.cap with enable := 8, triggers := node89.cap.triggers.set 2 { TriggerEntry.reset with line := 3 } } }
    node89.resetHeld = false ∧ up.cap.lines[0].candidate = none ∧
    node89.cap.lines[3].candidate = some { level := true, start := 0, duration := 8 } ∧ node89.At 8 ∧ ¬ (clocked 7 node89).At 8 ∧
    (one.cap.enable.getLsbD 3 = true ∧ one.cap.edges[3] = .rising ∧ one.cap.ring.length < 64) ∧ node89.cap.enable.getLsbD 3 = false ∧
    64 ≤ { one.cap with ring := (List.replicate 64 (ringOf [0])).flatten }.ring.length ∧ { one.sched with free := [] }.free = [] ∧ (inState .frozen node89).sched.state ≠ .running ∧ one.sched.state = .running ∧
    (one.cap.triggers[5].enabled = true ∧ one.cap.triggers[5].line = 3 ∧ one.cap.triggers[5].edge = .both) ∧
    (∀ m : Fin 8, m ≠ 5 → one.cap.triggers[m].enabled = false) ∧ one.sched.free = 100 :: [101, 102, 103] ∧
    (one.sched.wheel.filter fun r => r.due.toNat % 256 = (8005 : SlotNo).toNat % 256).length < 32 := by decide +kernel

/-- 8.9's node, where entries 2 and 5 match: both act; entry 0 does not; no free record; a full list. -/
theorem witness_QualifiedEdgeStoresAndTriggers_turn :
    let crowded : State := { node89 with sched := { node89.sched with wheel := (List.range 32).map fun i => recordAt (200 + i) 8003 } }
    node89.sched.state = .running ∧ node89.cap.triggers[0].enabled = false ∧
    (node89.cap.triggers[2].enabled = true ∧ node89.cap.triggers[2].line = 3 ∧ node89.cap.triggers[2].edge = .rising) ∧
    (node89.cap.triggers[5].enabled = true ∧ node89.cap.triggers[5].line = 3 ∧ node89.cap.triggers[5].edge = .both) ∧
    node89.sched.free = 100 :: [101, 102, 103] ∧ node89.sched.wheel = [] ∧ { node89.sched with free := [] }.free = [] ∧
    32 ≤ (crowded.sched.wheel.filter fun r => r.due.toNat % 256 = (8003 : SlotNo).toNat % 256).length := by decide +kernel

/-- 6 and 7 replies; busy and IDLE; each queue empty and not; both with a frame and a reply, the reply of a RESTART or not. -/
theorem witness_NoticesArePlacedAndIdleStarts :
    let idle := sending .idle up
    let held : Nat → State := fun n => { up with notices := { queue := [notice1], outstanding := false }, port := { up.port with replies := List.replicate n (replyTo hdr .reply (.fixed [0])) } }
    up.resetHeld = false ∧ up.port.tx ≠ .idle ∧ ((held 6).notices.queue ≠ [] ∧ (held 6).notices.outstanding = false ∧ (held 6).port.replies.length ≤ 6) ∧
    ¬ (held 7).port.replies.length ≤ 6 ∧ (idle.port.tx = .idle ∧ idle.port.forward = [] ∧ idle.port.replies = [] ∧ idle.notices.queue = []) ∧
    { idle with port := { idle.port with forward := [waiting] } }.port.forward ≠ [] ∧
    { idle with port := { idle.port with replies := [noticeDesc] } }.port.replies ≠ [] ∧
    (let both : ReplyDesc → State := fun d => { idle with port := { idle.port with forward := [waiting], replies := [d] } }
     let restart : ReplyDesc := { replyTo hdr .reply (.fixed [0]) with restartReply := true }
     (both noticeDesc).placeNotice.port.replies = noticeDesc :: [] ∧ noticeDesc.restartReply = false ∧
     (both restart).placeNotice.port.replies = restart :: [] ∧ restart.restartReply = true ∧ (both restart).port.tx = .idle) := by
  decide +kernel

/-- At the instant and one tick before it; each choice of the arbiter, with the credit below and at ArbiterRatio. -/
theorem witness_TransmitterCycle :
    let s : State := { clocked 9 up with port := { up.port with forward := [waiting], replies := [replyTo hdr .reply (.fixed [0])], credit := 3 } }
    s.resetHeld = false ∧ s.At 9 ∧ ¬ s.At 10 ∧ (sending (.sendingForward [] 9) s).port.tx = .sendingForward [] 9 ∧
    (s.port.forward = waiting :: [] ∧ waiting.restartMark = false) ∧ (sending (.sendingReply [] 9 false) s).port.tx = .sendingReply [] 9 false ∧
    (sending (.gap 9) s).port.tx = .gap 9 ∧ up.port.forward = [] ∧ up.port.replies = [] ∧ s.port.forward ≠ [] ∧ s.port.replies ≠ [] ∧
    (s.port.credit < s.cfg.arbiterRatio ∧ (replyTo hdr .reply (.fixed [0])).restartReply = false) ∧ s.cfg.arbiterRatio ≤ 4 := by decide +kernel

/-- A broadcast SYNC and another frame; each body of a descriptor; a ring and an empty ring; entry 0 holds an Address, and entry 7
alone. -/
theorem witness_TransmitStartFormsTheFrame :
    let sync : Frame := { dest := 0xFF, src := 0, kind := 0x01, seq := 0, hops := 4, mark := 0, payload := syncPayload 50000000 }
    let queue : ReplyDesc → State := fun d => { up with port := { up.port with replies := [d] } }
    { up with port := { up.port with forward := [waiting] } }.port.forward = waiting :: [] ∧ waiting.frame.kind ≠ 0x01 ∧
    (sync.kind = 0x01 ∧ sync.dest = 0xFF ∧ sync.payload = octetsOf 6 (50000000 : BitVec 48) ++ octetsOf 4 (0 : BitVec 32) ++ [1]) ∧
    (queue noticeDesc).port.replies = noticeDesc :: [] ∧ (noticeDesc.kind = .notice ∧ noticeDesc.body = .notice) ∧
    (replyTo hdr .reply (.fixed [0])).body = .fixed [0] ∧ (replyTo hdr .reply (.read .ok 1 0)).body = .read .ok 1 0 ∧
    (replyTo hdr .reply (.read .noObject 0 0)).body = .read .noObject 0 0 ∧ (replyTo hdr .report (.report 4)).body = .report 4 ∧
    (ringOf [0, 1]).take 2 = ringOf [0] ++ ringOf [1] ∧ up.cap.ring.take 4 = [] ∧
    up.addr[0] = some here ∧ ((up.addr.set 0 none).set 7 (some here))[7] = some here ∧
    (∀ j : Fin 8, j < 7 → ((up.addr.set 0 none).set 7 (some here))[j] = none) := by decide +kernel

end Sys2Proof.Tests
end

section
/-! Slot numbers, slot distances and slot lists read as arithmetic, and the statement that rests on them. -/

namespace Sys2Proof.Machine

/-! ## Slot numbers (R47) -/

theorem toNat_slotOf (k : Nat) (t : Ticks) : (slotOf k t).toNat = t.toNat / 2 ^ k % 2 ^ 32 := by
  simp [slotOf, Nat.shiftRight_eq_div_pow]

@[simp] theorem slotOf_zero (k : Nat) : slotOf k 0 = 0 := by
  simp [slotOf]

/-- Bit `i` of the slot number is bit `k + i` of line time, which exists for every `i < 32` as long as `k ≤ 16`. -/
theorem slotOf_allOnes {k : Nat} (hk : k ≤ 16) : slotOf k (BitVec.allOnes 48) = BitVec.allOnes 32 := by
  ext i hi
  have bit_exists : k + i < 48 := by omega
  simp [slotOf, bit_exists, -BitVec.reduceAllOnes]

/-- R47: line time and slot number wrap at the same tick. -/
theorem slotOf_wrap {k : Nat} (hk : k ≤ 16) :
    slotOf k (BitVec.allOnes 48 + 1) = slotOf k (BitVec.allOnes 48) + 1 := by
  have ticks_wrap : BitVec.allOnes 48 + 1 = 0 := by decide
  have slots_wrap : BitVec.allOnes 32 + 1 = 0 := by decide
  rw [ticks_wrap, slotOf_zero, slotOf_allOnes hk, slots_wrap]

/-- A turn of line time holds 2^(48 - k) slots, a whole number of turns of the slot number. -/
theorem slotsPerTurn_mod {k : Nat} (hk : k ≤ 16) : 2 ^ (48 - k) % 2 ^ 32 = 0 :=
  Nat.mod_eq_zero_of_dvd (Nat.pow_dvd_pow 2 (by omega))

/-! ## Slot distances (R47) -/

theorem slotDistance_bounds (a b : SlotNo) : -2 ^ 31 ≤ slotDistance a b ∧ slotDistance a b ≤ 2 ^ 31 - 1 :=
  ⟨BitVec.le_toInt (b - a), Int.le_sub_one_of_lt (BitVec.toInt_lt (x := b - a))⟩

theorem slotDistance_emod (a b : SlotNo) : slotDistance a b % 2 ^ 32 = ((b.toNat : Int) - a.toNat) % 2 ^ 32 := by
  have balanced : slotDistance a b = ((b.toNat : Int) - a.toNat).bmod (2 ^ 32) := by
    rw [slotDistance, BitVec.toInt_sub, BitVec.toInt_eq_toNat_bmod, BitVec.toInt_eq_toNat_bmod,
      Int.bmod_sub_bmod, Int.sub_bmod_bmod]
  rw [balanced]
  exact Int.bmod_emod

/-! ## Slot lists (R70) -/

theorem slotIndex_eq_iff (n : SlotNo) (i : BitVec 8) : slotIndex n = i ↔ n.toNat % 256 = i.toNat := by
  simp [slotIndex, ← BitVec.toNat_inj]

theorem State.slotList_eq_filter (s : State) (i : BitVec 8) :
    s.slotList i = s.sched.wheel.filter fun r => r.due.toNat % 256 = i.toNat := by
  simp only [State.slotList, slotIndex_eq_iff]

/-! ## SlotExp (R186) -/

theorem ConfigFields.put_slotExp_isTaken_iff (c : ConfigFields) (v : Nat) :
    (∃ d, c.put 0 v = some d) ↔ 8 ≤ v ∧ v ≤ 16 := by
  simp [ConfigFields.put]

/-- Settles O49: the laws of slot numbers, distances and lists above; the current slot number, and SlotExp after
reset, are so by definition. -/
theorem slotNumbersCountSlots : Obligations.SlotNumbersCountSlots := by
  refine ⟨toNat_slotOf, fun a b => ?distance, fun k _ hk => ?wrap, State.slotList_eq_filter, fun _ => rfl,
    ConfigFields.put_slotExp_isTaken_iff, fun _ _ => rfl⟩
  case distance =>
    obtain ⟨lower, upper⟩ := slotDistance_bounds a b
    exact ⟨lower, upper, Int.emod_eq_emod_iff_emod_sub_eq_zero.mp (slotDistance_emod a b)⟩
  case wrap => exact ⟨slotsPerTurn_mod hk, slotOf_allOnes hk, slotOf_zero k, slotOf_wrap hk⟩

end Sys2Proof.Machine
end

section
/-! What a CONTROL command does when it is taken, refused or broadcast, what RESTART and STATUS do with the owner, and
the statement about CLAIM that rests on them. -/

namespace Sys2Proof.Machine

/-! ## Outcomes -/

/-- A command without an effect answers the state as it is, in reset and out of it. -/
@[simp] theorem answer_self (s : State) : answer s s = .next s := by
  simp [answer]

/-! ## Authorisation (R30) -/

theorem State.authorised_eq_false_iff (s : State) (src : Octet) :
    s.authorised src = false ↔ s.owner ≠ 0xFF ∧ s.owner ≠ src := by
  simp [State.authorised, eq_comm (a := src)]

/-- The kinds subject to ownership are request kinds of the node. -/
theorem requestKind_of_kindOwned {kind : Octet} (ho : kindOwned kind = true) :
    requestKind kind = true ∧ ¬ 0x80 ≤ kind.toNat := by
  have write_or_control : kind = kindWrite ∨ kind = kindControl := by simpa [kindOwned] using ho
  rcases write_or_control with rfl | rfl <;> decide

/-- R30: whatever the entry permits and whatever the payload holds, an Src that is not authorised is refused. -/
theorem State.verdict_unauthorised {s : State} {src kind : Octet} (ho : kindOwned kind = true)
    (ha : s.authorised src = false) (e : Station) (parsed : Option Request) :
    s.verdict e src kind markClear parsed = .marked markRefused := by
  obtain ⟨known, below⟩ := requestKind_of_kindOwned ho
  simp [State.verdict, known, below, ho, ha]

/-! ## CONTROL (R27, R188) -/

/-- A CONTROL command other than RESTART is performed, and its result is queued as the reply. -/
theorem State.perform_control {c : Command} (hc : c ≠ .restart) (s : State) (h : ReqHeader) (mask : BitVec 16)
    (arrival : Ticks) (hops : Octet) :
    s.perform h mask arrival hops (.control c) = (s.command h.src c).2.resulted h (s.command h.src c).1 := by
  cases c with
  | restart => exact absurd rfl hc
  | _ => rfl

/-- What a unicast CONTROL command other than RESTART does when it is taken. -/
theorem State.answer_control_taken {s : State} {h : ReqHeader} {e : Station} {c : Command} (hc : c ≠ .restart)
    (ht : s.Takes h kindControl e) {r : MgmtResult} {t : State} (hcmd : s.command h.src c = (r, t)) :
    answer s (s.control h c) = .next (t.resulted h r).settle := by
  rw [answer_up ht.1, State.control_taken ht, State.perform_control hc, hcmd]

/-- R27: a command without a broadcast form does nothing when it is broadcast. -/
theorem State.control_broadcast_inert {h : ReqHeader} {c : Command} (hd : h.dest = 0xFF) (hb : c.hasBroadcast = false)
    (s : State) : s.control h c = s := by
  simp [State.control, State.broadcast, hd, hb]

/-- R30: a unicast CONTROL command from an Src that is not authorised does nothing. -/
theorem State.control_unauthorised {s : State} {h : ReqHeader} (hd : h.dest ≠ 0xFF) (ha : s.authorised h.src = false)
    (c : Command) : s.control h c = s := by
  rw [State.control, if_neg hd]
  rcases s.request_cases h s.lineTime (.control c) with inert | ⟨e, q, -, taken, -⟩
  · exact inert
  · have refused := State.verdict_unauthorised (kind := kindControl) rfl ha e (some (.control c))
    exact absurd (taken.symm.trans refused) Verdict.noConfusion

/-! ## CLAIM (R177) -/

theorem exec_claim (h : ReqHeader) (s : State) : exec (.claim h) s = answer s (s.control h .claim) := rfl

/-- R33: a CLAIM that is taken answers what `claimFor` decides. -/
theorem exec_claim_taken {s : State} {h : ReqHeader} {e : Station} (ht : s.Takes h kindControl e) {r : MgmtResult}
    {t : State} (hc : s.claimFor h.src = (r, t)) : exec (.claim h) s = .next (t.resulted h r).settle :=
  State.answer_control_taken (c := .claim) (by decide) ht hc

theorem State.claimFor_unclaimed {s : State} {src : Octet} (ho : s.owner = 0xFF) (hs : src ≠ 0xFF) :
    s.claimFor src = (.ok, { s with owner := src }) := by
  rw [State.claimFor, if_pos ho, if_neg hs, State.setOwner]

/-- 0xFF is no owner. -/
theorem State.claimFor_noOwner {s : State} {src : Octet} (ho : s.owner = 0xFF) (hs : src = 0xFF) :
    s.claimFor src = (.range, s) := by
  rw [State.claimFor, if_pos ho, if_pos hs]

theorem State.claimFor_claimed {s : State} (ho : s.owner ≠ 0xFF) (src : Octet) : s.claimFor src = (.ok, s) :=
  if_neg ho

/-! ## The owner in RESTART (R192, R193) and in STATUS (R180) -/

@[simp] theorem State.restartEffect_owner (s : State) : s.restartEffect.owner = s.owner := by
  simp [State.restartEffect, State.enterGap]

theorem State.getLast?_statusValue (s : State) : s.statusValue.getLast? = some s.owner :=
  List.getLast?_concat

/-- Settles O44: each clause is the law above for CLAIM taken, broadcast or refused, then RESTART and STATUS. -/
theorem claimSetsTheOwner : Obligations.ClaimSetsTheOwner := by
  intro s h
  refine ⟨fun e ht => ⟨?unclaimed, ?noOwner, ?byOwner⟩, ?broadcast, ?nonOwner, ?refused, s.restartEffect_owner,
    s.getLast?_statusValue⟩
  case unclaimed => exact fun ho hs => exec_claim_taken ht (State.claimFor_unclaimed ho hs)
  case noOwner => exact fun ho hs => exec_claim_taken ht (State.claimFor_noOwner ho hs)
  case byOwner => exact fun ho _ => exec_claim_taken ht (State.claimFor_claimed ho h.src)
  case broadcast =>
    intro hd
    rw [exec_claim, State.control_broadcast_inert hd rfl, answer_self]
  case nonOwner =>
    intro hd claimed other
    rw [exec_claim, State.control_unauthorised hd ((s.authorised_eq_false_iff h.src).mpr ⟨claimed, other⟩), answer_self]
  case refused =>
    intro e _ claimed other
    exact State.verdict_unauthorised rfl ((s.authorised_eq_false_iff h.src).mpr ⟨claimed, other⟩) e _

end Sys2Proof.Machine
end

section
/-! What one command can do, said once. A command other than the two of reset takes the part through a chain of small
changes, each of one block; an invariant that every change keeps is kept by every command. -/

namespace Sys2Proof.Machine

/-! ## Which commands may make the changes that statements name -/

/-- The commands that can step the offset: a SYNC, as its row or in a frame. -/
def movesOffset : Instr → Bool
  | .fe | .sync _ _ _ => true
  | _ => false

/-- The commands that can move the owner: CLAIM and RELEASE, as rows or in a frame. -/
def movesOwner : Instr → Bool
  | .fe | .claim _ | .release _ => true
  | _ => false

/-- The commands that can drive a channel whatever the scheduler state: SAFE, a WRITE of CHANNEL, the moment of effect
of RESTART, and a frame, which can carry any of them. -/
def drives : Instr → Bool
  | .fe | .feSent | .restartEffect | .restart _ _ | .safe _ | .writeChannel _ _ _ | .write _ _ _ _ => true
  | _ => false

/-- The commands by which START, RESUME and HALT can come. -/
def commandsScheduler : Instr → Bool
  | .fe | .start _ | .resume _ | .halt _ => true
  | _ => false

/-! ## The changes, block by block -/

/-- What can happen to the Scheduler, the channels, the latched flags and the Notice Queue. -/
inductive State.Effect (c : Instr) (s : State) : State → Prop
  /-- A sound record is linked, never in HALTED. -/
  | link {fill : Nat → ActionRecord} {t : State} (live : s.sched.state ≠ .halted)
      (sound : ∀ id, (fill id).id = id ∧ (fill id).Sound) (linked : s.linkRecord fill = some t) : Effect c s t
  | free {id : Nat} (linked : id ∈ s.sched.wheel.map (·.id)) : Effect c s (s.freeRecord id)
  /-- A linked record, counted and still sound, moves to another list. -/
  | relink {r kept : ActionRecord} {due : SlotNo} {t : State} (found : s.findRecord kept.id = some r)
      (sound : r.Sound → kept.Sound) (moved : s.relink kept due = some t) : Effect c s t
  | clear : Effect c s s.clearRecords
  | slot (n : SlotNo) : Effect c s (s.setSlot n)
  | act (r : ActionRecord) (running : s.sched.state = .running) : Effect c s (s.applyAction r)
  | offer (b : NoticeBody) : Effect c s (s.offerNotice b)
  | raise (k : FaultKind) (time : Ticks) : Effect c s (s.raise k time)
  | acknowledge (mask : Octet) : Effect c s (s.setFaults (s.faults.acknowledge mask))
  | run (may : commandsScheduler c = true) : Effect c s (s.setSched { s.sched with state := .running })
  | halt (may : commandsScheduler c = true) : Effect c s s.haltNow
  | safe (may : drives c = true) : Effect c s s.safeNow
  | endPulse (n : Fin 16) (due : s.timerDue s.out.chans[n].pulseEnd = true) : Effect c s
      (s.setOut { s.out with chans := s.out.chans.set n { s.out.chans[n] with level := false, pulseEnd := none } })

/-- What can happen to the Output Port, with the Notice Queue and HighestReported at a transmit start. -/
inductive State.PortMove (s : State) : State → Prop
  | place : PortMove s s.placeNotice
  | reply : PortMove s s.startReply
  | forward (credit : Nat) (counted : credit = 0 ∨ (s.port.credit < s.cfg.arbiterRatio ∧ credit = s.port.credit + 1)) :
      PortMove s (s.startForward credit)
  | idle : PortMove s (s.setPort { s.port with tx := .idle })
  | choose : PortMove s (s.setChoices (s.choices + 1))
  | queue (d : ReplyDesc) (room : s.port.replies.length < 8) (body : d.body ≠ .notice)
      (unmarked : d.restartMark = false) : PortMove s (s.queueReply d)
  | queueFirst (d : ReplyDesc) (room : s.port.replies.length < 8) (body : d.body ≠ .notice)
      (single : d.restartMark = true → s.markHeld = false) : PortMove s (s.queueReplyFirst d)
  | markForward (unmarked : s.markHeld = false) :
      PortMove s (s.setPort { s.port with forward := markLast s.port.forward })
  | markSending (unmarked : s.markHeld = false) : PortMove s s.markSending

/-- What can happen to the Line Receiver and the buffers, with the LINE_ERRORS condition and the Forward Queue. -/
inductive State.BufferMove (s : State) : State → Prop
  /-- Between states that hold no buffer. -/
  | wait (st : RxState) (before : s.rx.state.held = 0) (after : st.held = 0) : BufferMove s (s.setRxState st)
  | beginBreak (before : s.rx.state.held = 0) : BufferMove s (s.beginBreak .hunting)
  | endBreak (now : Ticks) (broken : s.rx.inBreak = true) :
      BufferMove s (s.setRx { s.rx with state := .settling now, inBreak := false })
  | store (a : Assembly) (o : Octet) (assembling : s.rx.state = .assembling a) (room : a.octets.length < 249) :
      BufferMove s (s.setRxState (.assembling { a with octets := a.octets ++ [o] }))
  | err (a : Assembly) (why : DiscardReason) (assembling : s.rx.state = .assembling a) :
      BufferMove s (s.setRxState (.errored a why))
  | openFrame (before : s.rx.state.held = 0) (unbroken : s.rx.inBreak = false) (room : s.rx.freeBuffers ≠ 0) :
      BufferMove s (s.setRx { s.rx with freeBuffers := s.rx.freeBuffers - 1 }).beginFrame
  | loseFrame (before : s.rx.state.held = 0) :
      BufferMove s (s.setRx { s.rx with state := .skipping, lastDiscard := .noBuffer })
  | breakFrame (why : DiscardReason) (before : s.rx.state.held = 1) :
      BufferMove s ((s.beginBreak .hunting).releaseBuffer.discard why)
  | dropFrame (why : DiscardReason) (before : s.rx.state.held = 1) :
      BufferMove s ((s.setRxState .hunting).releaseBuffer.discard why)
  | renewFrame (why : DiscardReason) (before : s.rx.state.held = 1) (unbroken : s.rx.inBreak = false) :
      BufferMove s (s.discard why).beginFrame
  /-- A good frame is handed over and its buffer freed (R25). -/
  | takeFrame (before : s.rx.state.held = 1) :
      BufferMove s (s.setRx { s.rx with state := .hunting, badCount := 0 }).evalLineErrors.releaseBuffer
  /-- A good frame is handed over and disposed of (R35). -/
  | passFrame (a : Assembly) (f : Received) (mark : Octet) (assembling : s.rx.state = .assembling a)
      (fits : a.octets.length ≤ 249 → f.frame.payload.length ≤ 240) :
      BufferMove s ((s.setRx { s.rx with state := .hunting, badCount := 0 }).evalLineErrors.dispose f mark)
  /-- The RESTART row brings its frame into a free buffer (log 7). -/
  | bringFrame (f : Received) (mark : Octet) (room : s.rx.freeBuffers ≠ 0) (fits : f.frame.payload.length ≤ 240) :
      BufferMove s ((s.setRx { s.rx with freeBuffers := s.rx.freeBuffers - 1 }).dispose f mark)
  /-- The FE of the item being sent has gone out. -/
  | sent : BufferMove s s.returnSentBuffer.enterGap

/-- What can happen to the Time Base, with the SYNC_LOST condition. -/
inductive State.TimeMove (c : Instr) (s : State) : State → Prop
  | tick (may : c = .tick) : TimeMove c s (s.setTime { s.time with localCount := s.time.localCount + 1 })
  | acquire (m e : Ticks) (may : movesOffset c = true) (unsynced : s.time.sync = .unsynced) :
      TimeMove c s ((s.stepTo .acquiring m e).deactivate .syncLost)
  | stepOffset (st : SyncState) (m e : Ticks) (may : movesOffset c = true) (synced : s.time.sync ≠ .unsynced)
      (next : st = .acquiring ∨ st = .locked) : TimeMove c s (s.stepTo st m e)
  | outlier (locked : s.time.sync = .locked) (few : s.time.outliers < 2) : TimeMove c s s.outlier
  | lose (acquiring : s.time.sync = .acquiring) : TimeMove c s s.enterUnsynced
  | hold (locked : s.time.sync = .locked) : TimeMove c s s.enterHoldover
  | expire (held : s.time.sync = .holdover) : TimeMove c s (s.enterUnsynced.activate .syncLost)

/-- What can happen to the Capture Unit. -/
inductive State.CaptureMove (s : State) : State → Prop
  /-- Pins, filters, settings and triggers: all but the ring and its sequence. -/
  | set (v : CaptureUnit) (ring : v.ring = s.cap.ring) (nextSeq : v.nextSeq = s.cap.nextSeq) : CaptureMove s (s.setCap v)
  | store (line : Fin 8) (edge : Edge) (time : Ticks) (sync : SyncState) :
      CaptureMove s (s.setCap (s.cap.store line edge time sync))
  | acknowledge (ackValid : Octet) (ackSeq : Half) : CaptureMove s (s.setCap (s.cap.acknowledge ackValid ackSeq))

/-- What WRITE, CLAIM and RELEASE can do to the tables, CONFIG and the owner. -/
inductive State.TableMove (c : Instr) (s : State) : State → Prop
  | config (i v : Nat) (cfg : ConfigFields) (field : i ≠ 10) (put : s.cfg.put i v = some cfg) : TableMove c s (s.setCfg cfg)
  | limit (v : Nat) (cfg : ConfigFields) (put : s.cfg.put 10 v = some cfg) : TableMove c s (s.setCfg cfg).evalLineErrors
  | address (n : Fin 8) (v : AddressValue) {t : State} (written : s.writeAddress n v = (.ok, t)) : TableMove c s t
  | channel (n : Fin 16) (v : ChannelValue) {t : State} (may : drives c = true) (written : s.writeChannel n v = (.ok, t)) :
      TableMove c s t
  | owner (v : Octet) (may : movesOwner c = true) : TableMove c s (s.setOwner v)

/-- One change that a command may make. -/
inductive State.Change (c : Instr) (s : State) : State → Prop
  | effect {t : State} (h : s.Effect c t) : Change c s t
  | port {t : State} (h : s.PortMove t) : Change c s t
  | buffer {t : State} (h : s.BufferMove t) : Change c s t
  | time {t : State} (h : s.TimeMove c t) : Change c s t
  | capture {t : State} (h : s.CaptureMove t) : Change c s t
  | table {t : State} (h : s.TableMove c t) : Change c s t
  | restart (may : drives c = true) : Change c s s.restartEffect

/-- A chain of changes that a command may make. -/
abbrev State.Reaches (c : Instr) : State → State → Prop := Relation.ReflTransGen (State.Change c)

theorem State.Effect.reaches {c : Instr} {s t : State} (h : s.Effect c t) : s.Reaches c t := .single (.effect h)
theorem State.PortMove.reaches {c : Instr} {s t : State} (h : s.PortMove t) : s.Reaches c t := .single (.port h)
theorem State.BufferMove.reaches {c : Instr} {s t : State} (h : s.BufferMove t) : s.Reaches c t := .single (.buffer h)
theorem State.TimeMove.reaches {c : Instr} {s t : State} (h : s.TimeMove c t) : s.Reaches c t := .single (.time h)
theorem State.CaptureMove.reaches {c : Instr} {s t : State} (h : s.CaptureMove t) : s.Reaches c t := .single (.capture h)
theorem State.TableMove.reaches {c : Instr} {s t : State} (h : s.TableMove c t) : s.Reaches c t := .single (.table h)

/-- A walk whose every turn is a chain of changes is one. -/
theorem State.Reaches.foldl {α : Type} {c : Instr} (f : State → α → State) (h : ∀ (s : State) a, s.Reaches c (f s a)) (l : List α)
    (s : State) : s.Reaches c (l.foldl f s) :=
  foldl_inv f (fun t => s.Reaches c t) (fun _ _ k => k.trans (h _ _)) l s .refl

end Sys2Proof.Machine
end

section
/-! Every meaning is a chain of changes: notices, releases and time steps, admissions, requests, and the end of an
event. -/

namespace Sys2Proof.Machine

variable {c : Instr}

/-! ## Notices, releases and walks (chapters 6 and 9) -/

theorem State.offerCompletion_reaches (s : State) (r : ActionRecord) (o : ActionOutcome) (time : Ticks) :
    s.Reaches c (s.offerCompletion r o time) := by
  unfold State.offerCompletion
  split
  · exact State.Effect.reaches (.offer _)
  · exact .refl

@[simp] theorem State.drive_sched (s : State) (r : ActionRecord) (o : ActionOutcome) : (s.drive r o).sched = s.sched := by
  cases o <;> rfl

theorem State.releaseOutcome_acts {s : State} {catchUp : Bool} {r : ActionRecord}
    (h : s.releaseOutcome catchUp r = .done ∨ s.releaseOutcome catchUp r = .late) : s.sched.state = .running := by
  unfold State.releaseOutcome at h
  split at h <;> simp_all

/-- R111: a hand-off to a channel happens in RUNNING only. -/
theorem State.drive_reaches (s : State) (r : ActionRecord) {o : ActionOutcome}
    (h : o = .done ∨ o = .late → s.sched.state = .running) : s.Reaches c (s.drive r o) := by
  cases o with
  | done => exact State.Effect.reaches (.act r (h (.inl rfl)))
  | late => exact State.Effect.reaches (.act r (h (.inr rfl)))
  | _ => exact .refl

@[simp] theorem ActionRecord.count_id (r : ActionRecord) (o : ActionOutcome) : (r.count o).id = r.id := by
  cases o <;> rfl

/-- R65: a record that firings have left and not spent is sound still. -/
theorem ActionRecord.Sound.less {r : ActionRecord} (h : r.Sound) {n fired : Nat} (hf : fired ≤ 65535)
    (left : (r.remaining.less n).spent = false) :
    ({ r with fired := fired, remaining := r.remaining.less n } : ActionRecord).Sound := by
  obtain ⟨-, single, period, finite, -⟩ := h
  refine ⟨?_, fun hp => ?_, period, fun m hm => ?_, hf⟩
  · intro spent
    simp [show r.remaining.less n = .times 0 from spent, Remaining.spent] at left
  · have one := single hp
    simp only [one, Remaining.less, Remaining.spent] at left ⊢
    have : n = 0 := by
      have : ¬ 1 - n = 0 := by simpa using left
      omega
    rw [this]
  · cases hr : r.remaining with
    | times k =>
      have := finite k hr
      simp only [hr, Remaining.less, Remaining.times.injEq] at hm
      omega
    | unlimited => simp [hr, Remaining.less] at hm

/-- R65, R113: a record that an outcome has counted and not spent is sound still. -/
theorem ActionRecord.Sound.count {r : ActionRecord} (h : r.Sound) {o : ActionOutcome}
    (left : (r.count o).remaining.spent = false) : (r.count o).Sound := by
  have fired : r.fired ≤ 65535 := h.2.2.2.2
  cases o with
  | done | late | disabled => exact h.less (by omega) left
  | suppressed | expired => exact h.less fired left
  | dropped | cancelled => exact h

theorem Remaining.spent_less_of_not_spentBySkips {n : Nat} {m : Remaining} (h : m.spentBySkips n = false) :
    (m.less n).spent = false := by
  cases m with
  | times k => simp_all [Remaining.less, Remaining.spent, Remaining.spentBySkips]; omega
  | unlimited => rfl

theorem State.findRecord_mem_ids {s : State} {id : Nat} {r : ActionRecord} (h : s.findRecord id = some r) :
    id ∈ s.sched.wheel.map (·.id) :=
  List.mem_map.mpr ⟨r, State.findRecord_eq_some h⟩

theorem State.findRecord_congr {s t : State} (h : t.sched = s.sched) (id : Nat) : t.findRecord id = s.findRecord id := by
  simp [State.findRecord, h]

/-- R69, R73: after the hand-off of its action, a linked record is freed. -/
theorem State.drive_free_reaches {s : State} {r : ActionRecord} {o : ActionOutcome} (found : s.findRecord r.id = some r)
    (h : o = .done ∨ o = .late → s.sched.state = .running) : s.Reaches c ((s.drive r o).freeRecord r.id) :=
  (s.drive_reaches r h).trans
    (State.Effect.reaches (.free (by rw [State.drive_sched]; exact State.findRecord_mem_ids found)))

/-- R72: after the hand-off of its action, a linked record is relinked as it has been counted. -/
theorem State.drive_relink_reaches {s t : State} {r kept : ActionRecord} {o : ActionOutcome} {due : SlotNo}
    (found : s.findRecord r.id = some r) (h : o = .done ∨ o = .late → s.sched.state = .running) (id : kept.id = r.id)
    (sound : r.Sound → kept.Sound) (moved : (s.drive r o).relink kept due = some t) : s.Reaches c t := by
  refine (s.drive_reaches r h).trans (State.Effect.reaches (.relink (r := r) ?_ sound moved))
  rw [id, State.findRecord_congr (State.drive_sched s r o), found]

theorem State.releaseOne_reaches {s : State} {r : ActionRecord} (found : s.findRecord r.id = some r) (time : Ticks) :
    s.Reaches c (s.releaseOne time r) := by
  have acts : s.releaseOutcome false r = .done ∨ s.releaseOutcome false r = .late → s.sched.state = .running :=
    State.releaseOutcome_acts
  have freed := State.drive_free_reaches (c := c) found acts
  unfold State.releaseOne
  dsimp only
  split
  · exact freed.trans (State.offerCompletion_reaches _ _ _ _)
  · rename_i left
    split
    · rename_i moved
      exact (State.drive_relink_reaches found acts (r.count_id _) (fun sound => sound.count (by simpa using left)) moved).trans
        (State.offerCompletion_reaches _ _ _ _)
    · exact ((freed.trans (State.offerCompletion_reaches _ _ _ _)).trans (State.offerCompletion_reaches _ _ _ _)).trans
        (State.Effect.reaches (.raise _ _))

/-- A record found by its number is found by its own number. -/
theorem State.findRecord_self {s : State} {id : Nat} {r : ActionRecord} (h : s.findRecord id = some r) :
    s.findRecord r.id = some r := by
  rw [(State.findRecord_eq_some h).2]; exact h

theorem State.releaseTurn_reaches (time : Ticks) (s : State) (id : Nat) :
    s.Reaches c (State.releaseTurn time s id) := by
  unfold State.releaseTurn
  split
  · rename_i found
    exact State.releaseOne_reaches (State.findRecord_self found) time
  · exact .refl

theorem State.walkSlot_reaches (s : State) (n : SlotNo) (time : Ticks) : s.Reaches c (s.walkSlot n time) :=
  State.Reaches.foldl _ (State.releaseTurn_reaches time) _ s

theorem State.setSlot_reaches (s : State) (n : SlotNo) : s.Reaches c (s.setSlot n) := State.Effect.reaches (.slot n)

theorem State.slotExpiry_reaches (s : State) (n : SlotNo) (time : Ticks) : s.Reaches c (s.slotExpiry n time) := by
  unfold State.slotExpiry
  dsimp only
  split
  · exact s.setSlot_reaches n
  all_goals exact (s.setSlot_reaches n).trans (State.walkSlot_reaches _ _ _)

theorem offerInStep_reaches (p : StepState) (r : ActionRecord) (o : ActionOutcome) (time : Ticks) :
    p.1.Reaches c (offerInStep p r o time).1 := by
  unfold offerInStep
  dsimp only
  split
  · exact (State.offerCompletion_reaches _ _ _ _).trans (State.Effect.reaches (.raise _ _))
  · exact State.offerCompletion_reaches _ _ _ _

theorem passOne_reaches {p : StepState} {r : ActionRecord} (found : p.1.findRecord r.id = some r) (catchUp : Bool)
    (b : SlotNo) (time : Ticks) : p.1.Reaches c (passOne catchUp b time p r).1 := by
  have acts : (if catchUp = true then p.1.releaseOutcome true r else .expired) = .done ∨
      (if catchUp = true then p.1.releaseOutcome true r else .expired) = .late → p.1.sched.state = .running := by
    split
    · exact State.releaseOutcome_acts
    · simp
  unfold passOne
  dsimp only
  generalize (if catchUp = true then p.1.releaseOutcome true r else ActionOutcome.expired) = o at acts ⊢
  have freed := State.drive_free_reaches (c := c) found acts
  have told : ∀ (t : State) r' o', t.Reaches c (offerInStep (t, p.2) r' o' time).1 :=
    fun t r' o' => offerInStep_reaches (t, p.2) r' o' time
  split
  · exact freed.trans (told _ _ _)
  · rename_i left
    split
    · split
      · exact freed.trans (told _ _ _)
      · exact (freed.trans (told _ _ _)).trans (offerInStep_reaches _ _ _ _)
    · rename_i kept
      split
      · rename_i moved
        refine (State.drive_relink_reaches found acts ?_ (fun h => ?_) moved).trans (told _ _ _)
        · exact r.count_id o
        · have counted := h.count (o := o) (by simpa using left)
          exact counted.less counted.2.2.2.2 (Remaining.spent_less_of_not_spentBySkips (by simpa using kept))
      · exact ((freed.trans (told _ _ _)).trans (offerInStep_reaches _ _ _ _)).trans (State.Effect.reaches (.raise _ _))

theorem passTurn_reaches (catchUp : Bool) (b : SlotNo) (time : Ticks) (p : StepState) (id : Nat) :
    p.1.Reaches c (passTurn catchUp b time p id).1 := by
  unfold passTurn
  split
  · rename_i found
    exact passOne_reaches (State.findRecord_self found) catchUp b time
  · exact .refl

theorem State.timeStep_reaches (s : State) (b : SlotNo) (time : Ticks) : s.Reaches c (s.timeStep b time) := by
  unfold State.timeStep
  dsimp only
  split
  · exact s.setSlot_reaches b
  all_goals
    split
    · exact s.setSlot_reaches b
    · exact ((s.setSlot_reaches b).trans (foldl_inv _ (fun q : StepState => (s.setSlot b).Reaches c q.1)
        (fun q _ h => h.trans (passTurn_reaches _ _ _ q _)) _ (s.setSlot b, false) .refl)).trans
        (State.walkSlot_reaches _ _ _)

theorem State.slotMoved_reaches (s : State) : s.Reaches c s.slotMoved := by
  unfold State.slotMoved
  split
  · exact .refl
  · exact s.timeStep_reaches _ _

theorem State.afterStep_reaches (s : State) (e : Ticks) : s.Reaches c (s.afterStep e) := by
  unfold State.afterStep
  split
  · exact .refl
  · exact s.slotMoved_reaches

/-! ## The end of an event (R38, R40) -/

theorem State.idleStart_reaches (s : State) : s.Reaches c s.idleStart := by
  unfold State.idleStart
  split
  · split
    · exact .refl
    · exact State.PortMove.reaches (.forward 0 (.inl rfl))
    · exact State.PortMove.reaches .reply
    · split
      · exact State.PortMove.reaches .reply
      · dsimp only
        split
        · exact (State.PortMove.reaches .choose).trans (State.PortMove.reaches .reply)
        · exact (State.PortMove.reaches .choose).trans (State.PortMove.reaches (.forward 0 (.inl rfl)))
  all_goals exact .refl

theorem State.settle_reaches (s : State) : s.Reaches c s.settle :=
  ((State.PortMove.reaches .place).trans (State.idleStart_reaches _)).trans (State.PortMove.reaches .place)

/-- A chain of changes, and the end of the event. -/
theorem State.Reaches.settle {s t : State} (h : s.Reaches c t) : s.Reaches c t.settle := h.trans t.settle_reaches

theorem State.arbitrate_reaches (s : State) : s.Reaches c s.arbitrate := by
  unfold State.arbitrate
  split
  · exact State.PortMove.reaches .idle
  · exact State.PortMove.reaches (.forward 0 (.inl rfl))
  · exact State.PortMove.reaches .reply
  · split
    · exact State.PortMove.reaches .reply
    · split
      · exact State.PortMove.reaches .reply
      · rename_i low
        exact State.PortMove.reaches (.forward _ (.inr ⟨by omega, rfl⟩))

theorem State.endTransmission_reaches (may : drives c = true) (s : State) : s.Reaches c s.endTransmission := by
  have sent : s.Reaches c s.returnSentBuffer.enterGap := State.BufferMove.reaches .sent
  unfold State.endTransmission
  split
  · exact sent.tail (.restart may)
  · exact sent

end Sys2Proof.Machine
end

section
/-! Every meaning is a chain of changes: the Time Base, requests, capture, frames, and so every command. -/

namespace Sys2Proof.Machine

variable {c : Instr}

/-! ## The Time Base (chapter 3) -/

theorem State.syncMachine_reaches (may : movesOffset c = true) (s : State) (m e : Ticks) :
    s.Reaches c (s.syncMachine m e) := by
  have steps : ∀ st, s.time.sync ≠ .unsynced → st = .acquiring ∨ st = .locked → s.Reaches c (s.stepTo st m e) :=
    fun st synced next => State.TimeMove.reaches (.stepOffset st m e may synced next)
  unfold State.syncMachine
  split
  · rename_i unsynced
    exact (State.TimeMove.reaches (.acquire m e may unsynced)).trans (State.afterStep_reaches _ _)
  · rename_i acquiring
    exact (steps _ (by simp [acquiring]) (by split <;> simp)).trans (State.afterStep_reaches _ _)
  · rename_i locked
    split
    · exact (steps _ (by simp [locked]) (.inr rfl)).trans (State.afterStep_reaches _ _)
    · split
      · rename_i few
        exact State.TimeMove.reaches (.outlier locked few)
      · exact ((steps _ (by simp [locked]) (.inl rfl)).trans (State.Effect.reaches (.raise _ _))).trans
          (State.afterStep_reaches _ _)
  · rename_i held
    split
    · exact (steps _ (by simp [held]) (.inr rfl)).trans (State.afterStep_reaches _ _)
    · exact ((steps _ (by simp [held]) (.inl rfl)).trans (State.Effect.reaches (.raise _ _))).trans
        (State.afterStep_reaches _ _)

theorem State.takeSync_reaches (may : movesOffset c = true) (s : State) (src : Octet) (arrival : Ticks)
    (payload : List Octet) : s.Reaches c (s.takeSync src arrival payload) := by
  unfold State.takeSync
  split
  · exact s.syncMachine_reaches may _ _
  · exact .refl

theorem State.syncTimeout_reaches (s : State) : s.Reaches c s.syncTimeout := by
  unfold State.syncTimeout
  split
  · exact State.TimeMove.reaches (.lose ‹_›)
  · exact State.TimeMove.reaches (.hold ‹_›)
  all_goals exact .refl

theorem State.holdoverEnd_reaches (s : State) : s.Reaches c s.holdoverEnd := by
  unfold State.holdoverEnd
  split
  · exact (State.TimeMove.reaches (.expire ‹_›)).trans (State.Effect.reaches (.raise _ _))
  all_goals exact .refl

/-! ## SCHEDULE and CANCEL (chapter 5) -/

/-- R86, check 6: a descriptor that passes and repeats has a Period. -/
theorem actionRefused_eq_ok {e : ChannelEntry} {d : Descriptor} {k : ActionKind} (h : actionRefused e d = .ok k) :
    ¬ (d.count ≠ 1 ∧ d.period = 0) := by
  unfold actionRefused at h
  split at h
  · cases h
  · split_ifs at h with _ _ unrepeated
    simpa using unrepeated

theorem State.judge_eq_ok {s : State} {mask : BitVec 16} {arrivalSlot : SlotNo} {d : Descriptor}
    {p : Fin 16 × ActionKind × SlotNo} (h : s.judge mask arrivalSlot d = .ok p) : ¬ (d.count ≠ 1 ∧ d.period = 0) := by
  unfold State.judge at h
  split at h
  · dsimp only at h
    split_ifs at h
    split at h
    · cases h
    · cases h
    · rename_i passed _
      exact actionRefused_eq_ok passed
  · cases h

theorem State.judge_ne_error_accepted (s : State) (mask : BitVec 16) (arrivalSlot : SlotNo) (d : Descriptor) :
    s.judge mask arrivalSlot d ≠ .error .accepted := by
  have action : ∀ e, actionRefused e d ≠ .error .accepted := by
    intro e h
    unfold actionRefused at h
    split at h
    · simp at h
    · split_ifs at h <;> simp at h
  have time : ∀ m, s.timeRefused m ≠ some .accepted := by
    intro m h
    unfold State.timeRefused at h
    split at h
    · split at h <;> simp at h
    · split at h <;> simp at h
    · simp at h
  have due : ∀ m target due, s.dueRefused m target due ≠ some .accepted := by
    intro m target due h
    unfold State.dueRefused at h
    dsimp only at h
    split_ifs at h <;> simp at h
  intro h
  unfold State.judge at h
  split at h
  · dsimp only at h
    split_ifs at h
    · simp at h
    · simp at h
    · split at h
      · rename_i refused
        exact action _ (refused.trans (congrArg _ (Except.error.inj h)))
      · simp at h
      · split at h
        · rename_i refused
          exact time _ (refused.trans (congrArg _ (Except.error.inj h)))
        · split at h
          · rename_i refused
            exact due _ _ _ (refused.trans (congrArg _ (Except.error.inj h)))
          · cases h
  · simp at h

/-- R86, R91: one descriptor is refused, and changes nothing, or it is accepted and linked. -/
theorem State.admitDesc_refused_or_linked (s : State) (src : Octet) (mask : BitVec 16) (arrivalSlot : SlotNo)
    (d : Descriptor) :
    (∃ r, r ≠ .accepted ∧ s.admitDesc src mask arrivalSlot d = (r, s)) ∨
    (∃ ch k due t, s.judge mask arrivalSlot d = .ok (ch, k, due) ∧ s.linkRecord (lineRecord src d ch k due) = some t ∧
      s.admitDesc src mask arrivalSlot d = (.accepted, t)) := by
  rcases s.admitDesc_cases src mask arrivalSlot d with ⟨r, judged, h⟩ | ⟨ch, k, due, judged, ⟨-, h⟩ | ⟨-, -, h⟩ | ⟨t, ht, h⟩⟩
  · refine .inl ⟨r, ?_, h⟩
    rintro rfl
    exact s.judge_ne_error_accepted _ _ _ judged
  · exact .inl ⟨_, by decide, h⟩
  · exact .inl ⟨_, by decide, h⟩
  · exact .inr ⟨ch, k, due, t, judged, ht, h⟩

/-- R65: the record of a descriptor that check 6 passes is sound. -/
theorem lineRecord_sound {d : Descriptor} (h : ¬ (d.count ≠ 1 ∧ d.period = 0)) (src : Octet) (ch : Fin 16)
    (k : ActionKind) (due : SlotNo) (id : Nat) : (lineRecord src d ch k due id).Sound := by
  have finite : d.count.toNat ≤ 65535 := Nat.le_of_lt_succ d.count.isLt
  refine ⟨?live, ?single, ?period, ?finite, Nat.zero_le _⟩
  case live =>
    by_cases zero : d.count = 0#16
    · simp [lineRecord, remainingOf, zero]
    · have : d.count.toNat ≠ 0 := by simpa [← BitVec.toNat_inj] using zero
      simp [lineRecord, remainingOf, zero, this]
  case single =>
    by_cases one : d.count = 1#16
    · simp [lineRecord, remainingOf, one]
    · simp [lineRecord, one]
  case period =>
    by_cases one : d.count = 1#16
    · simp [lineRecord, one]
    · have repeats : d.period ≠ 0#8 := fun zero => h ⟨one, zero⟩
      simp [lineRecord, repeats]
  case finite =>
    intro n hn
    by_cases zero : d.count = 0#16
    · simp [lineRecord, remainingOf, zero] at hn
    · have : d.count.toNat = n := by simpa [lineRecord, remainingOf, zero] using hn
      omega

theorem State.admitDesc_reaches {s : State} (live : s.sched.state ≠ .halted) (src : Octet) (mask : BitVec 16)
    (arrivalSlot : SlotNo) (d : Descriptor) : s.Reaches c (s.admitDesc src mask arrivalSlot d).2 := by
  rcases s.admitDesc_refused_or_linked src mask arrivalSlot d with ⟨r, -, h⟩ | ⟨ch, k, due, t, judged, linked, h⟩
  · rw [h]
  · rw [h]
    exact State.Effect.reaches
      (.link live (fun id => ⟨rfl, lineRecord_sound (State.judge_eq_ok judged) src ch k due id⟩) linked)

@[simp] theorem State.admitDesc_sched_state (s : State) (src : Octet) (mask : BitVec 16) (arrivalSlot : SlotNo)
    (d : Descriptor) : (s.admitDesc src mask arrivalSlot d).2.sched.state = s.sched.state := by
  rcases s.admitDesc_refused_or_linked src mask arrivalSlot d with ⟨r, -, h⟩ | ⟨ch, k, due, t, -, linked, h⟩
  · rw [h]
  · obtain ⟨id, rest, -, -, rfl⟩ := State.linkRecord_eq_some linked
    rw [h]; rfl

theorem State.admitEach_reaches (src : Octet) (mask : BitVec 16) (arrivalSlot : SlotNo) (ds : List Descriptor) (s : State)
    (live : s.sched.state ≠ .halted) : s.Reaches c (s.admitEach src mask arrivalSlot ds).2 := by
  induction ds generalizing s with
  | nil => exact .refl
  | cons d ds ih => exact (State.admitDesc_reaches live src mask arrivalSlot d).trans (ih _ (by simpa using live))

/-- Unlinking a record takes its number from those linked. -/
theorem State.ids_unlink (s : State) (id : Nat) :
    (s.unlink id).sched.wheel.map (·.id) = (s.sched.wheel.map (·.id)).erase id := by
  rw [List.erase_eq_eraseP, List.eraseP_map]
  simp only [State.unlink, State.setSched_sched]
  congr 2
  funext r
  rw [Function.comp_apply, Bool.eq_iff_iff, decide_eq_true_iff, beq_iff_eq, eq_comm]

/-- R93: records that are all linked can be freed one after the other. -/
theorem State.foldl_freeRecord_reaches (ids : List Nat) (s : State) (linked : ids.Subperm (s.sched.wheel.map (·.id))) :
    s.Reaches c (ids.foldl State.freeRecord s) := by
  induction ids generalizing s with
  | nil => exact .refl
  | cons id ids ih =>
    refine (State.Effect.reaches (.free (linked.subset List.mem_cons_self))).trans (ih _ ?_)
    have rest : ids.Subperm ((s.sched.wheel.map (·.id)).erase id) := by simpa using linked.erase id
    rwa [← State.ids_unlink] at rest

theorem State.admitAll_reaches (src : Octet) (mask : BitVec 16) (arrivalSlot : SlotNo) (ds : List Descriptor) (s : State)
    (live : s.sched.state ≠ .halted) (ids : List Nat) (linked : ids.Subperm (s.sched.wheel.map (·.id))) :
    s.Reaches c (s.admitAll src mask arrivalSlot ids ds).2 := by
  induction ds generalizing s ids with
  | nil => exact .refl
  | cons d ds ih =>
    have admitted := State.admitDesc_reaches (c := c) live src mask arrivalSlot d
    have state := s.admitDesc_sched_state src mask arrivalSlot d
    rcases s.admitDesc_refused_or_linked src mask arrivalSlot d with ⟨r, refused, h⟩ | ⟨ch, k, due, t, -, ht, h⟩
    · rw [State.admitAll, h]
      cases r <;> first | exact absurd rfl refused | exact State.foldl_freeRecord_reaches ids s linked
    · rw [h] at admitted state
      rw [State.admitAll, h]
      refine admitted.trans (ih t (by rwa [state]) _ ?_)
      obtain ⟨id, rest, hf, -, rfl⟩ := State.linkRecord_eq_some ht
      simpa [hf, lineRecord] using (List.subperm_append_right [id]).mpr linked

theorem State.takeSchedule_reaches (s : State) (src : Octet) (mask : BitVec 16) (arrival : Ticks) (flags : Octet)
    (ds : List Descriptor) : s.Reaches c (s.takeSchedule src mask arrival flags ds).2 := by
  unfold State.takeSchedule
  split_ifs with halted
  · exact .refl
  · exact State.admitAll_reaches _ _ _ ds s halted [] (List.nil_subperm)
  · exact State.admitEach_reaches _ _ _ ds s halted

theorem State.cancelTurn_reaches (time : Ticks) (s : State) (id : Nat) : s.Reaches c (State.cancelTurn time s id) := by
  unfold State.cancelTurn
  split
  · rename_i found
    exact (State.Effect.reaches (.free (State.findRecord_mem_ids found))).trans (State.offerCompletion_reaches _ _ _ _)
  · exact .refl

theorem State.takeCancel_reaches (s : State) (selector : Octet) (tag : Half) (channel : Octet) (mask : BitVec 16) :
    s.Reaches c (s.takeCancel selector tag channel mask).2 :=
  State.Reaches.foldl _ (State.cancelTurn_reaches _) _ s

/-! ## WRITE and CONTROL (chapter 10) -/

/-- The requests that a command may perform, by the changes that statements name. -/
def mayPerform (c : Instr) : Request → Prop
  | .write (.channel _ _) => drives c = true
  | .control .start | .control .resume | .control .halt => commandsScheduler c = true
  | .control .safe | .control .restart => drives c = true
  | .control .claim | .control .release => movesOwner c = true
  | .control .clearWheel | .schedule _ _ | .cancel _ _ _ | .poll _ _ _ | .read _ _ | .write (.plain _ _)
  | .write (.config _ _) | .write (.address _ _) | .write (.trigger _ _) | .write (.captureConfig _)
  | .write (.fault _) => True

/-- A frame can carry any request. -/
theorem mayPerform_fe (r : Request) : mayPerform .fe r := by
  cases r with
  | write w => cases w <;> trivial
  | control k => cases k <;> trivial
  | _ => trivial

theorem State.writeConfig_reaches (s : State) (index : Octet) (value : Half) :
    s.Reaches c (s.writeConfig index value).2 := by
  unfold State.writeConfig
  split
  · exact .refl
  · split
    · exact .refl
    · rename_i cfg put
      split_ifs with slotExp _ _ limit
      · exact State.TableMove.reaches (.config _ _ cfg (by simp [slotExp]) put)
      · exact (State.TableMove.reaches (.config _ _ cfg (by simp [slotExp]) put)).trans (State.slotMoved_reaches _)
      · exact .refl
      · refine State.TableMove.reaches (.limit value.toNat cfg ?_)
        rwa [limit] at put
      · refine State.TableMove.reaches (.config _ _ cfg (fun ten => limit ?_) put)
        exact BitVec.eq_of_toNat_eq ten

/-- R138: a CHANNEL write is refused, and changes nothing, or it is taken. -/
theorem State.writeChannel_cases (s : State) (n : Fin 16) (v : ChannelValue) :
    s.writeChannel n v = (.range, s) ∨ ∃ t, s.writeChannel n v = (.ok, t) := by
  unfold State.writeChannel
  dsimp only
  split
  · exact .inl rfl
  · split
    · exact .inl rfl
    · exact .inr ⟨_, rfl⟩

theorem State.takeWrite_reaches (s : State) (w : ObjWrite) (may : mayPerform c (.write w)) :
    s.Reaches c (s.takeWrite w).2 := by
  cases w with
  | plain o i => exact .refl
  | config i v => exact s.writeConfig_reaches i v
  | address n v =>
    show s.Reaches c (s.writeAddress n v).2
    unfold State.writeAddress
    dsimp only
    split_ifs with range duplicate lockout
    · exact .refl
    · exact .refl
    · exact .refl
    · refine State.TableMove.reaches (.address n v ?_)
      unfold State.writeAddress
      dsimp only
      rw [if_neg range, if_neg duplicate, if_neg lockout]
  | channel n v =>
    have may : drives c = true := may
    show s.Reaches c (s.writeChannel n v).2
    rcases s.writeChannel_cases n v with refused | ⟨t, written⟩
    · rw [refused]
    · rw [written]
      exact State.TableMove.reaches (.channel n v may written)
  | trigger n v =>
    show s.Reaches c (s.writeTrigger n v).2
    unfold State.writeTrigger
    split
    · exact .refl
    · exact State.CaptureMove.reaches (.set _ rfl rfl)
  | captureConfig v =>
    show s.Reaches c (s.writeCaptureConfig v).2
    unfold State.writeCaptureConfig
    split
    · exact State.CaptureMove.reaches (.set _ rfl rfl)
    · exact .refl
  | fault m => exact State.Effect.reaches (.acknowledge m)

theorem State.run_reaches (may : commandsScheduler c = true) (s : State) (from' : SchedState) :
    s.Reaches c (s.run from').2 := by
  unfold State.run
  split
  · exact State.Effect.reaches (.run may)
  · exact .refl

theorem State.clearWheelNow_reaches (s : State) : s.Reaches c s.clearWheelNow := by
  unfold State.clearWheelNow
  split
  · exact .refl
  all_goals exact State.Effect.reaches .clear

theorem State.claimFor_reaches (may : movesOwner c = true) (s : State) (src : Octet) : s.Reaches c (s.claimFor src).2 := by
  unfold State.claimFor
  split_ifs
  · exact .refl
  · exact State.TableMove.reaches (.owner src may)
  · exact .refl

theorem State.releaseBy_reaches (may : movesOwner c = true) (s : State) (src : Octet) :
    s.Reaches c (s.releaseBy src).2 := by
  unfold State.releaseBy
  split
  · exact State.TableMove.reaches (.owner _ may)
  · exact .refl

theorem State.command_reaches (s : State) (src : Octet) (k : Command) (may : mayPerform c (.control k)) :
    s.Reaches c (s.command src k).2 := by
  cases k with
  | start => exact s.run_reaches may _
  | resume => exact s.run_reaches may _
  | halt => exact State.Effect.reaches (.halt may)
  | safe => exact State.Effect.reaches (.safe may)
  | clearWheel => exact s.clearWheelNow_reaches
  | claim => exact s.claimFor_reaches may src
  | release => exact s.releaseBy_reaches may src
  | restart => exact .refl

/-! ## Taking a request -/

@[simp] theorem State.queueReplyFirst_markHeld (s : State) (d : ReplyDesc) :
    (s.queueReplyFirst d).markHeld = (d.restartMark || s.markHeld) := by
  simp only [State.markHeld, State.queueReplyFirst, State.setPort_port, List.any_cons]
  cases d.restartMark <;> simp

theorem State.takeRestart_reaches {s : State} (room : s.port.replies.length < 8) (h : ReqHeader) (hops : Octet) :
    s.Reaches c (s.takeRestart h hops) := by
  have first : ∀ d : ReplyDesc, d.body = .fixed [MgmtResult.ok.code] →
      (d.restartMark = true → s.markHeld = false) → s.Reaches c (s.queueReplyFirst d) :=
    fun d body single => State.PortMove.reaches (.queueFirst d room (by simp [body]) single)
  unfold State.takeRestart
  dsimp only
  split
  · rename_i forwarded
    obtain ⟨unmarked, hops_ne⟩ : s.markHeld = false ∧ hops ≠ 0#8 := by simpa using forwarded
    refine (first _ rfl fun _ => unmarked).trans (State.PortMove.reaches (.markForward ?_))
    simp [unmarked, hops_ne]
  · exact first _ rfl (by simp +contextual)

theorem State.takeBroadcastRestart_reaches (may : drives c = true) (s : State) (hops : Octet) :
    s.Reaches c (s.takeBroadcastRestart hops) := by
  unfold State.takeBroadcastRestart
  split
  · exact .refl
  · rename_i unmarked
    have unmarked : s.markHeld = false := by simpa using unmarked
    split
    · exact State.PortMove.reaches (.markForward unmarked)
    · split
      · exact State.PortMove.reaches (.markSending unmarked)
      · exact State.PortMove.reaches (.markSending unmarked)
      all_goals exact .single (.restart may)

/-- What is queued for a request that is no RESTART: no NOTICE, and no restart mark. -/
theorem State.queueReplyTo_reaches {s : State} (room : s.port.replies.length < 8) (h : ReqHeader) (kind : ReplyKind)
    {body : ReplyBody} (hb : body ≠ .notice) : s.Reaches c (s.queueReply (replyTo h kind body)) :=
  State.PortMove.reaches (.queue _ room hb rfl)

/-! What a request does before its reply leaves the Output Port as it was. -/

theorem State.admitDesc_port (s : State) (src : Octet) (mask : BitVec 16) (arrivalSlot : SlotNo) (d : Descriptor) :
    (s.admitDesc src mask arrivalSlot d).2.port = s.port := by
  obtain ⟨v, h⟩ := s.admitDesc_frame src mask arrivalSlot d
  rw [h]; rfl

theorem State.admitEach_port (src : Octet) (mask : BitVec 16) (arrivalSlot : SlotNo) (ds : List Descriptor) (s : State) :
    (s.admitEach src mask arrivalSlot ds).2.port = s.port := by
  induction ds generalizing s with
  | nil => rfl
  | cons d ds ih => exact (ih _).trans (s.admitDesc_port src mask arrivalSlot d)

theorem State.foldl_freeRecord_port (ids : List Nat) (s : State) : (ids.foldl State.freeRecord s).port = s.port :=
  foldl_keeps State.freeRecord State.port (fun _ _ => rfl) ids s

theorem State.admitAll_port (src : Octet) (mask : BitVec 16) (arrivalSlot : SlotNo) (ds : List Descriptor) (s : State)
    (ids : List Nat) : (s.admitAll src mask arrivalSlot ids ds).2.port = s.port := by
  induction ds generalizing s ids with
  | nil => rfl
  | cons d ds ih =>
    have port := s.admitDesc_port src mask arrivalSlot d
    unfold State.admitAll
    split
    · rename_i h
      rw [h] at port
      exact (ih _ _).trans port
    · exact State.foldl_freeRecord_port ids s

theorem State.takeSchedule_port (s : State) (src : Octet) (mask : BitVec 16) (arrival : Ticks) (flags : Octet)
    (ds : List Descriptor) : (s.takeSchedule src mask arrival flags ds).2.port = s.port := by
  unfold State.takeSchedule
  split_ifs
  · rfl
  · exact State.admitAll_port _ _ _ ds s []
  · exact State.admitEach_port _ _ _ ds s

theorem State.writeConfig_port (s : State) (index : Octet) (value : Half) : (s.writeConfig index value).2.port = s.port := by
  unfold State.writeConfig
  split
  · rfl
  · split
    · rfl
    · split_ifs <;> simp

theorem State.takeWrite_port (s : State) (w : ObjWrite) : (s.takeWrite w).2.port = s.port := by
  cases w with
  | plain o i => rfl
  | config i v => exact s.writeConfig_port i v
  | address n v =>
    show (s.writeAddress n v).2.port = s.port
    unfold State.writeAddress
    dsimp only
    split_ifs <;> rfl
  | channel n v =>
    show (s.writeChannel n v).2.port = s.port
    unfold State.writeChannel
    dsimp only
    split
    · rfl
    · split <;> rfl
  | trigger n v =>
    show (s.writeTrigger n v).2.port = s.port
    unfold State.writeTrigger
    split <;> rfl
  | captureConfig v =>
    show (s.writeCaptureConfig v).2.port = s.port
    unfold State.writeCaptureConfig
    split <;> rfl
  | fault m => rfl

theorem State.command_port (s : State) (src : Octet) (k : Command) : (s.command src k).2.port = s.port := by
  cases k with
  | start => show (s.run _).2.port = _; unfold State.run; split <;> rfl
  | resume => show (s.run _).2.port = _; unfold State.run; split <;> rfl
  | halt => show s.haltNow.port = _; unfold State.haltNow; split <;> rfl
  | safe => show s.safeNow.port = _; unfold State.safeNow; split <;> rfl
  | clearWheel => show s.clearWheelNow.port = _; unfold State.clearWheelNow; split <;> rfl
  | claim => show (s.claimFor src).2.port = _; unfold State.claimFor; split_ifs <;> rfl
  | release => show (s.releaseBy src).2.port = _; unfold State.releaseBy; split <;> rfl
  | restart => rfl

theorem State.perform_reaches {s : State} (room : s.port.replies.length < 8) (h : ReqHeader) (mask : BitVec 16)
    (arrival : Ticks) (hops : Octet) (r : Request) (may : mayPerform c r) :
    s.Reaches c (s.perform h mask arrival hops r) := by
  have replied : ∀ {t : State} (kind : ReplyKind) (body : ReplyBody), s.Reaches c t → t.port = s.port →
      body ≠ .notice → s.Reaches c (t.queueReply (replyTo h kind body)) :=
    fun kind body reached port hb => reached.trans (State.queueReplyTo_reaches (by rwa [port]) h kind hb)
  cases r with
  | schedule flags ds => exact replied _ _ (s.takeSchedule_reaches _ _ _ _ _) (s.takeSchedule_port _ _ _ _ _) (by simp)
  | cancel sel tag ch =>
    exact replied _ _ (s.takeCancel_reaches _ _ _ _) (s.takeCancel_effectsOnly _ _ _ _).port (by simp)
  | poll av seq mc => exact replied _ _ (State.CaptureMove.reaches (.acknowledge av seq)) rfl (by simp)
  | read o i => exact replied _ _ .refl rfl (by simp)
  | write w => exact replied _ _ (s.takeWrite_reaches w may) (s.takeWrite_port w) (by simp)
  | control k =>
    by_cases hk : k = .restart
    · subst hk
      exact State.takeRestart_reaches room h hops
    · rw [State.perform_control hk]
      exact replied _ _ (s.command_reaches h.src k may) (s.command_port h.src k) (by simp)

theorem State.broadcast_reaches (s : State) (src : Octet) (hops : Octet) (k : Command) (may : mayPerform c (.control k)) :
    s.Reaches c (s.broadcast src hops k) := by
  unfold State.broadcast
  split
  · split
    · exact s.takeBroadcastRestart_reaches may hops
    · exact s.command_reaches src k may
  · exact .refl

theorem State.request_reaches (s : State) (h : ReqHeader) (arrival : Ticks) (r : Request) (may : mayPerform c r) :
    s.Reaches c (s.request h arrival r) := by
  rcases s.request_cases h arrival r with inert | ⟨e, q, -, taken, performed⟩
  · rw [inert]
  · obtain ⟨-, same, -, room⟩ := State.verdict_eq_taken taken
    cases same
    rw [performed]
    exact (State.perform_reaches room h _ _ _ r may).settle

theorem State.control_reaches (s : State) (h : ReqHeader) (k : Command) (may : mayPerform c (.control k)) :
    s.Reaches c (s.control h k) := by
  unfold State.control
  split
  · exact s.broadcast_reaches _ _ k may
  · exact s.request_reaches _ _ _ may

/-! ## Capture (chapter 8) -/

/-- R155: the record of a trigger is a sound single shot. -/
theorem triggerRecord_sound (n : Fin 8) (e : TriggerEntry) (due : SlotNo) (id : Nat) :
    (triggerRecord n e due id).Sound := by
  refine ⟨by simp [triggerRecord], fun _ => rfl, by simp [triggerRecord], fun m hm => ?_, Nat.zero_le _⟩
  have one : 1 = m := Remaining.times.inj hm
  omega

theorem State.disarm_reaches (s : State) (n : Fin 8) (e : TriggerEntry) : s.Reaches c (s.disarm n e) := by
  unfold State.disarm
  split
  · exact State.CaptureMove.reaches (.set _ rfl rfl)
  · exact .refl

theorem State.triggerTurn_reaches (line : Fin 8) (edge : Edge) (s : State) (n : Fin 8) :
    s.Reaches c (State.triggerTurn line edge s n) := by
  unfold State.triggerTurn
  dsimp only
  split
  · rename_i acts
    have running : s.sched.state = .running := by simpa using (Bool.and_eq_true_iff.mp acts).2
    split
    · rename_i linked
      exact (State.Effect.reaches (.link (by simp [running]) (fun id => ⟨rfl, triggerRecord_sound n _ _ id⟩) linked)).trans
        (State.disarm_reaches _ _ _)
    · exact State.Effect.reaches (.raise _ _)
  · exact .refl

theorem State.qualify_reaches (s : State) (line : Fin 8) (k : Candidate) : s.Reaches c (s.qualify line k) := by
  unfold State.qualify
  dsimp only
  refine Relation.ReflTransGen.trans ?_ (State.Reaches.foldl _ (State.triggerTurn_reaches line _) _ _)
  split
  · refine Relation.ReflTransGen.trans (State.CaptureMove.reaches (.set _ ?_ ?_))
      (State.CaptureMove.reaches (.store line _ _ _))
    all_goals rfl
  · exact State.CaptureMove.reaches (.set _ rfl rfl)

/-! ## Frames (chapters 1 and 2) -/

@[simp] theorem State.dispose_replies (s : State) (f : Received) (mark : Octet) :
    (s.dispose f mark).port.replies = s.port.replies := by
  unfold State.dispose
  split <;> rfl

/-- R24: a frame is disposed of, or its buffer freed, and what is then done with what it carries is a chain of changes. -/
theorem State.classify_reaches (s : State) (f : Received) (sync : f.frame.kind = kindSync → movesOffset c = true)
    (may : ∀ r, parseRequest f.frame.kind f.frame.payload = some r → mayPerform c r) :
    ∃ t : State, (t = s.releaseBuffer ∨ ∃ mark, t = s.dispose f mark) ∧ t.Reaches c (s.classify f) := by
  have disposed : ∀ {mark u}, (s.dispose f mark).Reaches c u →
      ∃ t : State, (t = s.releaseBuffer ∨ ∃ mark, t = s.dispose f mark) ∧ t.Reaches c u :=
    fun reached => ⟨_, .inr ⟨_, rfl⟩, reached⟩
  unfold State.classify
  dsimp only
  split
  · exact ⟨_, .inl rfl, .refl⟩
  · split
    · split
      · rename_i kind
        exact disposed (State.takeSync_reaches (sync kind) _ _ _ _)
      · split
        · rename_i kind
          split
          · rename_i parsed
            exact disposed (State.broadcast_reaches _ _ _ _ (may _ (by rw [kind, parsed])))
          · exact disposed .refl
        · exact disposed .refl
    · split
      · exact disposed .refl
      · split
        · exact disposed .refl
        · exact disposed .refl
        · rename_i taken
          obtain ⟨-, parsed, -, room⟩ := State.verdict_eq_taken taken
          exact disposed (State.perform_reaches (by simpa using room) _ _ _ _ _ (may _ parsed))

/-- A frame spelled by at most 249 octets has at most 240 octets of payload. -/
theorem frameOf_payload_le {octets : List Octet} {f : Frame} (h : frameOf octets = some f) (fits : octets.length ≤ 249) :
    f.payload.length ≤ 240 := by
  unfold frameOf at h
  split at h
  · cases h
    simp only [List.length_cons] at fits
    simp only [List.length_take]
    omega
  · cases h

theorem State.endFrame_reaches {s : State} {a : Assembly} (assembling : s.rx.state = .assembling a) :
    s.Reaches .fe (s.endFrame a) := by
  have held : s.rx.state.held = 1 := by rw [assembling]; rfl
  unfold State.endFrame
  split
  · rename_i f _ spelled
    unfold State.handOver
    obtain ⟨t, disposed, reached⟩ := State.classify_reaches (c := .fe)
      ((s.setRx { s.rx with state := .hunting, badCount := 0 }).evalLineErrors)
      { frame := f, arrival := a.arrival, arrivalOffset := a.arrivalOffset } (fun _ => rfl) (fun r _ => mayPerform_fe r)
    refine Relation.ReflTransGen.trans ?_ reached
    rcases disposed with rfl | ⟨mark, rfl⟩
    · exact State.BufferMove.reaches (.takeFrame held)
    · exact State.BufferMove.reaches (.passFrame a _ mark assembling (frameOf_payload_le spelled))
  · exact State.BufferMove.reaches (.dropFrame _ held)
  · exact State.BufferMove.reaches (.dropFrame _ held)

theorem State.openFrame_reaches {s : State} (before : s.rx.state.held = 0) (unbroken : s.rx.inBreak = false) :
    s.Reaches c s.openFrame := by
  unfold State.openFrame
  split
  · exact (State.BufferMove.reaches (.loseFrame before)).trans (State.Effect.reaches (.raise _ _))
  · exact State.BufferMove.reaches (.openFrame before unbroken ‹_›)

/-- The RESTART row: its frame takes a free buffer and is classified (log 7). -/
theorem State.classify_restart_reaches {s : State} {h : ReqHeader} {hops : Octet} (room : s.rx.freeBuffers ≠ 0) :
    s.Reaches (.restart h hops) ((s.setRx { s.rx with freeBuffers := s.rx.freeBuffers - 1 }).classify
      { frame := restartFrame h hops, arrival := s.lineTime, arrivalOffset := s.time.offset }) := by
  obtain ⟨t, disposed, reached⟩ := State.classify_reaches (c := .restart h hops)
    (s.setRx { s.rx with freeBuffers := s.rx.freeBuffers - 1 })
    { frame := restartFrame h hops, arrival := s.lineTime, arrivalOffset := s.time.offset }
    (fun kind => absurd kind (by simp [restartFrame]))
    (fun r parsed => by
      have restart : some (Request.control .restart) = some r := parsed
      cases restart
      rfl)
  refine Relation.ReflTransGen.trans ?_ reached
  rcases disposed with rfl | ⟨mark, rfl⟩
  · have returned : (s.setRx { s.rx with freeBuffers := s.rx.freeBuffers - 1 }).releaseBuffer = s := by
      unfold State.releaseBuffer State.setRx
      have : s.rx.freeBuffers - 1 + 1 = s.rx.freeBuffers := by omega
      simp only [this]
    rw [returned]
  · exact State.BufferMove.reaches (.bringFrame _ mark room (by simp [restartFrame]))

/-! ## Every command -/

/-- A command whose effect is a chain of changes. -/
theorem answer_reaches {s t u : State} (h : s.Reaches c t) (answered : answer s t = .next u) : s.Reaches c u := by
  rcases answer_cases answered with ⟨-, rfl⟩ | ⟨-, rfl⟩
  · exact .refl
  · exact h

/-- What one command can do: a chain of changes, unless it is one of the two of reset. -/
theorem exec_reaches {s t : State} (h : exec c s = .next t) (low : c ≠ .resetNLow)
    (release : ∀ straps inputs, c ≠ .resetRelease straps inputs) : s.Reaches c t := by
  cases c with
  | resetNLow => exact absurd rfl low
  | resetRelease straps inputs => exact absurd rfl (release straps inputs)
  | settlingEnd =>
    refine answer_reaches ?_ h
    split
    · rename_i settling
      split
      · exact State.BufferMove.reaches (.wait _ (by rw [settling]; rfl) rfl)
      · exact .refl
    all_goals exact .refl
  | settlingWaitRestart lowTicks =>
    refine answer_reaches ?_ h
    split
    · rename_i settling
      split
      · exact .refl
      · exact State.BufferMove.reaches (.wait _ (by rw [settling]; rfl) rfl)
    all_goals exact .refl
  | lineBreak =>
    refine answer_reaches ?_ h
    split
    · exact .refl
    · split <;> rename_i state
      · exact .refl
      · exact State.BufferMove.reaches (.beginBreak (by rw [state]; rfl))
      · exact State.BufferMove.reaches (.beginBreak (by rw [state]; rfl))
      · exact (State.BufferMove.reaches (.breakFrame .brk (by rw [state]; rfl))).settle
      · exact (State.BufferMove.reaches (.breakFrame _ (by rw [state]; rfl))).settle
  | breakEnd =>
    refine answer_reaches ?_ h
    split
    · exact State.BufferMove.reaches (.endBreak _ ‹_›)
    · exact .refl
  | fs =>
    refine answer_reaches ?_ h
    split
    · exact .refl
    · rename_i broken
      have unbroken : s.rx.inBreak = false := by simpa using broken
      split <;> rename_i state
      · exact .refl
      · exact (State.openFrame_reaches (by rw [state]; rfl) unbroken).settle
      · exact (State.openFrame_reaches (by rw [state]; rfl) unbroken).settle
      · exact (State.BufferMove.reaches (.renewFrame _ (by rw [state]; rfl) unbroken)).settle
      · exact (State.BufferMove.reaches (.renewFrame _ (by rw [state]; rfl) unbroken)).settle
  | dataCharacter octet =>
    refine answer_reaches ?_ h
    split
    · rename_i assembling
      split
      · exact State.BufferMove.reaches (.store _ _ assembling ‹_›)
      · exact State.BufferMove.reaches (.err _ _ assembling)
    all_goals exact .refl
  | errorCharacter char =>
    refine answer_reaches ?_ h
    split
    · exact State.BufferMove.reaches (.err _ _ ‹_›)
    all_goals exact .refl
  | fe =>
    refine answer_reaches ?_ h
    split <;> rename_i state
    · exact (State.endFrame_reaches state).settle
    · exact (State.BufferMove.reaches (.dropFrame _ (by rw [state]; rfl))).settle
    · exact State.BufferMove.reaches (.wait _ (by rw [state]; rfl) rfl)
    · exact .refl
    · exact .refl
  | sync src arrival payload =>
    refine answer_reaches ?_ h
    split
    · exact (State.takeSync_reaches rfl _ _ _ _).settle
    · exact .refl
  | syncTimeoutExpiry =>
    refine answer_reaches ?_ h
    split
    · exact State.syncTimeout_reaches s
    · exact .refl
  | holdoverExpiry =>
    refine answer_reaches ?_ h
    split
    · exact (State.holdoverEnd_reaches s).settle
    · exact .refl
  | slotBoundary =>
    refine answer_reaches ?_ h
    dsimp only
    split
    · exact (State.slotExpiry_reaches s _ _).settle
    · exact .refl
  | pulseExpiry channel =>
    refine answer_reaches ?_ h
    split
    · exact State.Effect.reaches (.endPulse channel ‹_›)
    · exact .refl
  | captureInputChange line level =>
    refine answer_reaches ?_ h
    dsimp only
    split
    all_goals exact State.CaptureMove.reaches (.set _ rfl rfl)
  | qualifiedEdge line =>
    refine answer_reaches ?_ h
    split
    · split
      · exact (State.qualify_reaches s _ _).settle
      · exact .refl
    · exact .refl
  | schedule h' arrival flags ds => exact answer_reaches (s.request_reaches h' arrival (.schedule flags ds) trivial) h
  | cancel h' sel tag ch => exact answer_reaches (s.request_reaches h' _ (.cancel sel tag ch) trivial) h
  | poll h' av seq mc => exact answer_reaches (s.request_reaches h' _ (.poll av seq mc) trivial) h
  | read h' o i => exact answer_reaches (s.request_reaches h' _ (.read o i) trivial) h
  | write h' o i v =>
    refine answer_reaches ?_ h
    split
    · rename_i w _
      refine s.request_reaches h' _ (.write w) ?_
      cases w <;> trivial
    · exact .refl
  | writeConfig h' i v => exact answer_reaches (s.request_reaches h' _ (.write (.config i v)) trivial) h
  | writeSlotExp h' v => exact answer_reaches (s.request_reaches h' _ (.write (.config 0 v)) trivial) h
  | writeLineErrorLimit h' v => exact answer_reaches (s.request_reaches h' _ (.write (.config 10 v)) trivial) h
  | writeAddress h' n v => exact answer_reaches (s.request_reaches h' _ (.write (.address n v)) trivial) h
  | writeChannel h' n v => exact answer_reaches (s.request_reaches h' _ (.write (.channel n v)) rfl) h
  | writeTrigger h' n v => exact answer_reaches (s.request_reaches h' _ (.write (.trigger n v)) trivial) h
  | writeCaptureConfig h' v => exact answer_reaches (s.request_reaches h' _ (.write (.captureConfig v)) trivial) h
  | writeFault h' m => exact answer_reaches (s.request_reaches h' _ (.write (.fault m)) trivial) h
  | start h' => exact answer_reaches (s.control_reaches h' .start rfl) h
  | halt h' => exact answer_reaches (s.control_reaches h' .halt rfl) h
  | resume h' => exact answer_reaches (s.control_reaches h' .resume rfl) h
  | safe h' => exact answer_reaches (s.control_reaches h' .safe rfl) h
  | clearWheel h' => exact answer_reaches (s.control_reaches h' .clearWheel trivial) h
  | claim h' => exact answer_reaches (s.control_reaches h' .claim rfl) h
  | release h' => exact answer_reaches (s.control_reaches h' .release rfl) h
  | restart h' hops =>
    refine answer_reaches ?_ h
    split
    · exact .refl
    · exact (State.classify_restart_reaches ‹_›).settle
  | restartEffect =>
    refine answer_reaches ?_ h
    split
    · exact s.endTransmission_reaches rfl
    · exact .refl
  | noticeDescriptorPlace => exact answer_reaches s.settle_reaches h
  | feSent =>
    refine answer_reaches ?_ h
    split
    · exact s.endTransmission_reaches rfl
    · exact .refl
  | gapEnd =>
    refine answer_reaches ?_ h
    split
    · split
      · exact s.arbitrate_reaches.settle
      · exact .refl
    all_goals exact .refl
  | tick =>
    refine answer_reaches ((State.TimeMove.reaches (.tick rfl)).trans (State.CaptureMove.reaches (.set _ ?_ ?_))) h
    all_goals
      unfold CaptureUnit.firstSample
      split <;> rfl

end Sys2Proof.Machine
end

section
/-! What each kind of change leaves as it was, and how a property that every change keeps is kept by a step. -/

namespace Sys2Proof.Machine

variable {c : Instr}

/-! ## What a raise or a notice does to the Scheduler, the channels and the Notice Queue -/

theorem safeOne_safeOne (e : ChannelEntry) (k : ChannelState) : safeOne e (safeOne e k) = safeOne e k := by
  unfold safeOne
  cases e.safeLevel <;> rfl

@[simp] theorem State.safeDrive_safeDrive (s : State) : s.safeDrive.safeDrive = s.safeDrive := by
  have chans : Vector.zipWith safeOne s.out.table (Vector.zipWith safeOne s.out.table s.out.chans) =
      Vector.zipWith safeOne s.out.table s.out.chans := by
    ext i hi
    all_goals simp [safeOne_safeOne]
  simp [State.safeDrive, State.setOut, chans]

theorem State.freezeResponse_running {s : State} (h : s.sched.state = .running) :
    s.freezeResponse = (s.setSched { s.sched with state := .frozen }).safeDrive := by
  simp [State.freezeResponse, h]

theorem State.freezeResponse_halted {s : State} (h : s.sched.state = .halted) : s.freezeResponse = s.safeDrive := by
  simp [State.freezeResponse, h]

theorem State.freezeResponse_frozen {s : State} (h : s.sched.state = .frozen) : s.freezeResponse = s := by
  simp [State.freezeResponse, h]

/-- R107: a FREEZE response on a part that one has just met changes nothing more. -/
@[simp] theorem State.freezeResponse_freezeResponse (s : State) : s.freezeResponse.freezeResponse = s.freezeResponse := by
  cases h : s.sched.state with
  | running => rw [State.freezeResponse_running h, State.freezeResponse_frozen (by simp)]
  | halted => rw [State.freezeResponse_halted h, State.freezeResponse_halted (by simp [h]), State.safeDrive_safeDrive]
  | frozen => rw [State.freezeResponse_frozen h, State.freezeResponse_frozen h]

/-- The Scheduler and the channels stay as they were, or are as a FREEZE response leaves them. -/
def State.MayFreeze (s t : State) : Prop :=
  (t.sched = s.sched ∧ t.out = s.out) ∨ (t.sched = s.freezeResponse.sched ∧ t.out = s.freezeResponse.out)

theorem State.MayFreeze.same {s t : State} (sched : t.sched = s.sched) (out : t.out = s.out) : s.MayFreeze t :=
  .inl ⟨sched, out⟩

/-- A FREEZE response looks at the Scheduler and the channels only. -/
theorem State.freezeResponse_congr {s t : State} (sched : t.sched = s.sched) (out : t.out = s.out) :
    t.freezeResponse.sched = s.freezeResponse.sched ∧ t.freezeResponse.out = s.freezeResponse.out := by
  unfold State.freezeResponse
  rw [sched]
  cases s.sched.state <;> simp [State.safeDrive, State.setOut, State.setSched, sched, out]

theorem State.MayFreeze.trans {s t u : State} (h : s.MayFreeze t) (k : t.MayFreeze u) : s.MayFreeze u := by
  rcases h with ⟨sched, out⟩ | ⟨sched, out⟩
  · obtain ⟨fs, fo⟩ := State.freezeResponse_congr sched out
    rcases k with ⟨sched', out'⟩ | ⟨sched', out'⟩
    · exact .inl ⟨sched'.trans sched, out'.trans out⟩
    · exact .inr ⟨sched'.trans fs, out'.trans fo⟩
  · obtain ⟨fs, fo⟩ := State.freezeResponse_congr sched out
    rw [State.freezeResponse_freezeResponse] at fs fo
    rcases k with ⟨sched', out'⟩ | ⟨sched', out'⟩
    · exact .inr ⟨sched'.trans sched, out'.trans out⟩
    · exact .inr ⟨sched'.trans fs, out'.trans fo⟩

/-- The Notice Queue stays within its capacity, and does not become empty. -/
def State.NoticesGrow (s t : State) : Prop :=
  (s.notices.queue.length ≤ 32 → t.notices.queue.length ≤ 32) ∧ (s.notices.queue ≠ [] → t.notices.queue ≠ [])

theorem State.NoticesGrow.same {s t : State} (h : t.notices = s.notices) : s.NoticesGrow t := by
  unfold State.NoticesGrow
  rw [h]
  exact ⟨id, id⟩

/-- What notices and raises can do: a FREEZE response, and notices more. -/
structure State.Raises (s t : State) : Prop where
  freeze : s.MayFreeze t
  notices : s.NoticesGrow t

theorem State.Raises.trans {s t u : State} (h : s.Raises t) (k : t.Raises u) : s.Raises u :=
  ⟨h.freeze.trans k.freeze, k.notices.1 ∘ h.notices.1, k.notices.2 ∘ h.notices.2⟩

theorem State.Raises.same {s t : State} (sched : t.sched = s.sched) (out : t.out = s.out) (notices : t.notices = s.notices) :
    s.Raises t := ⟨.same sched out, .same notices⟩

theorem State.latch_raises (s : State) (k : FaultKind) : s.Raises (s.latch k) := .same rfl rfl rfl

theorem State.activate_raises (s : State) (k : FaultKind) : s.Raises (s.activate k) := .same rfl rfl rfl

theorem State.freezeResponse_notices (s : State) : s.freezeResponse.notices = s.notices := by
  unfold State.freezeResponse
  split <;> rfl

theorem State.respond_raises (s : State) (k : FaultKind) : s.Raises (s.respond k) := by
  unfold State.respond
  split
  · exact ⟨.inr ⟨rfl, rfl⟩, .same s.freezeResponse_notices⟩
  · exact .same rfl rfl rfl

@[simp] theorem length_markNewest (q : List Notice) : (markNewest q).length = q.length := by
  induction q using markNewest.induct <;> simp_all [markNewest]

theorem markNewest_ne_nil {q : List Notice} (h : q ≠ []) : markNewest q ≠ [] := by
  have := List.length_pos_of_ne_nil h
  exact List.ne_nil_of_length_pos (by simpa using this)

theorem State.offerNotice_raises (s : State) (b : NoticeBody) : s.Raises (s.offerNotice b) := by
  unfold State.offerNotice
  dsimp only
  split
  · rename_i room
    exact ⟨.same rfl rfl, fun _ => by simpa using room, fun _ => by simp⟩
  · have marked : s.Raises (s.setNotices { s.notices with queue := markNewest s.notices.queue }) :=
      ⟨.same rfl rfl, fun h => by simpa using h, fun h => markNewest_ne_nil h⟩
    split
    · exact marked
    · exact (marked.trans (State.latch_raises _ _)).trans (State.respond_raises _ _)

theorem State.raise_raises (s : State) (k : FaultKind) (time : Ticks) : s.Raises (s.raise k time) := by
  have latched := s.latch_raises k
  unfold State.raise
  dsimp only
  split
  · exact .same rfl rfl rfl
  · split
    · exact (latched.trans (State.offerNotice_raises _ _)).trans (State.respond_raises _ _)
    · exact latched.trans (State.respond_raises _ _)

theorem State.evalLineErrors_raises (s : State) : s.Raises s.evalLineErrors := by
  unfold State.evalLineErrors
  split_ifs
  · exact .same rfl rfl rfl
  · exact (s.activate_raises _).trans (State.raise_raises _ _ _)
  · exact .same rfl rfl rfl

/-! ## Active conditions (R160) -/

theorem State.isActive_activate (s : State) (k j : FaultKind) :
    (s.activate k).isActive j = (s.isActive j || decide (k = j)) := by
  cases k <;> cases j <;> simp [State.isActive, State.activate, FaultKind.mask, FaultKind.code]

theorem State.isActive_deactivate (s : State) (k j : FaultKind) :
    (s.deactivate k).isActive j = (s.isActive j && !decide (k = j)) := by
  cases k <;> cases j <;> simp [State.isActive, State.deactivate, FaultKind.mask, FaultKind.code]

theorem State.isActive_congr {s t : State} (h : t.faults.active = s.faults.active) (k : FaultKind) :
    t.isActive k = s.isActive k := by
  simp [State.isActive, h]

/-- R19: after the evaluation the LINE_ERRORS condition is active exactly while the count is at or above the limit. -/
theorem State.evalLineErrors_isActive (s : State) :
    s.evalLineErrors.isActive .lineErrors = decide (s.cfg.lineErrorLimit ≤ s.rx.badCount) := by
  unfold State.evalLineErrors
  split_ifs with bad active
  · simp [active, bad]
  · rw [State.isActive_congr (State.raise_faults_active _ _ _)]
    simp [State.isActive_activate, bad]
  · simp [State.isActive_deactivate, bad]

theorem State.evalLineErrors_isActive_ne (s : State) {k : FaultKind} (h : k ≠ .lineErrors) :
    s.evalLineErrors.isActive k = s.isActive k := by
  unfold State.evalLineErrors
  split_ifs
  · rfl
  · rw [State.isActive_congr (State.raise_faults_active _ _ _)]
    simp [State.isActive_activate, h.symm]
  · simp [State.isActive_deactivate, h.symm]

/-! ## What each kind of change keeps -/

@[simp] theorem State.haltNow_effectsOnly (s : State) : s.EffectsOnly s.haltNow := by
  unfold State.haltNow
  split <;> constructor <;> rfl

theorem State.safeNow_effectsOnly (s : State) : s.EffectsOnly s.safeNow := by
  unfold State.safeNow
  split <;> constructor <;> rfl

theorem State.Effect.effectsOnly {s t : State} (h : s.Effect c t) : s.EffectsOnly t := by
  cases h with
  | link live sound linked => exact State.linkRecord_effectsOnly linked
  | free linked => exact s.freeRecord_effectsOnly _
  | relink found sound moved => exact State.relink_effectsOnly moved
  | clear => exact s.setSched_effectsOnly _
  | slot n => exact s.setSlot_effectsOnly n
  | act r running => exact s.drive_effectsOnly r .done
  | offer b => exact (s.offerNotice_noticesOnly b).toEffectsOnly
  | raise k time => exact (s.raise_noticesOnly k time).toEffectsOnly
  | acknowledge mask => constructor <;> rfl
  | run => exact s.setSched_effectsOnly _
  | halt => exact s.haltNow_effectsOnly
  | safe => exact s.safeNow_effectsOnly
  | endPulse n => constructor <;> rfl

theorem State.markSending_portOnly (s : State) : s.PortOnly s.markSending := by
  unfold State.markSending
  split
  · split
    · exact .refl s
    · exact s.setPort_portOnly _
  · exact s.setPort_portOnly _
  · exact .refl s
  · exact .refl s

theorem State.PortMove.portOnly {s t : State} (h : s.PortMove t) : s.PortOnly t := by
  cases h with
  | place => exact s.placeNotice_portOnly
  | reply => exact s.startReply_portOnly
  | forward credit => exact s.startForward_portOnly credit
  | choose => exact s.setChoices_portOnly _
  | markSending => exact s.markSending_portOnly
  | idle | queue | queueFirst | markForward => exact s.setPort_portOnly _

/-- What a change of the buffers keeps: all but the Line Receiver, the Forward Queue, the transmitter, the LINE_ERRORS
condition, and what a raise of LINE_ERRORS does. -/
structure State.BuffersOnly (s t : State) : Prop where
  time : t.time = s.time
  cap : t.cap = s.cap
  addr : t.addr = s.addr
  owner : t.owner = s.owner
  cfg : t.cfg = s.cfg
  pending : t.pending = s.pending
  replies : t.port.replies = s.port.replies
  credit : t.port.credit = s.port.credit
  out_table : t.out.table = s.out.table
  sched_free : t.sched.free = s.sched.free
  sched_wheel : t.sched.wheel = s.sched.wheel
  outstanding : t.notices.outstanding = s.notices.outstanding
  active : ∀ k, k ≠ FaultKind.lineErrors → t.isActive k = s.isActive k
  raises : s.Raises t

theorem State.BuffersOnly.refl (s : State) : s.BuffersOnly s := by
  constructor <;> first | rfl | exact fun _ _ => rfl | exact .same rfl rfl rfl

theorem State.BuffersOnly.trans {s t u : State} (h : s.BuffersOnly t) (k : t.BuffersOnly u) : s.BuffersOnly u where
  time := k.time.trans h.time
  cap := k.cap.trans h.cap
  addr := k.addr.trans h.addr
  owner := k.owner.trans h.owner
  cfg := k.cfg.trans h.cfg
  pending := k.pending.trans h.pending
  replies := k.replies.trans h.replies
  credit := k.credit.trans h.credit
  out_table := k.out_table.trans h.out_table
  sched_free := k.sched_free.trans h.sched_free
  sched_wheel := k.sched_wheel.trans h.sched_wheel
  outstanding := k.outstanding.trans h.outstanding
  active := fun j hj => (k.active j hj).trans (h.active j hj)
  raises := h.raises.trans k.raises

theorem State.setRx_buffersOnly (s : State) (v : Receiver) : s.BuffersOnly (s.setRx v) := by
  constructor <;> first | rfl | exact fun _ _ => rfl | exact .same rfl rfl rfl

/-- A change of the Forward Queue and the transmitter. -/
theorem State.setPort_buffersOnly {s : State} {v : OutputPort} (replies : v.replies = s.port.replies)
    (credit : v.credit = s.port.credit) : s.BuffersOnly (s.setPort v) := by
  constructor <;> first | rfl | exact fun _ _ => rfl | exact .same rfl rfl rfl | assumption

theorem State.evalLineErrors_buffersOnly (s : State) : s.BuffersOnly s.evalLineErrors := by
  constructor <;> first | exact fun _ h => s.evalLineErrors_isActive_ne h | exact s.evalLineErrors_raises | simp

theorem State.discard_buffersOnly (s : State) (why : DiscardReason) : s.BuffersOnly (s.discard why) :=
  (s.setRx_buffersOnly _).trans (State.evalLineErrors_buffersOnly _)

theorem State.dispose_buffersOnly (s : State) (f : Received) (mark : Octet) : s.BuffersOnly (s.dispose f mark) := by
  unfold State.dispose
  split
  · exact s.setRx_buffersOnly _
  · exact State.setPort_buffersOnly rfl rfl

theorem State.returnSentBuffer_buffersOnly (s : State) : s.BuffersOnly s.returnSentBuffer := by
  unfold State.returnSentBuffer
  split
  · split
    · exact .refl s
    · rename_i rest _
      have left : s.BuffersOnly (s.setPort { s.port with forward := rest }) := State.setPort_buffersOnly rfl rfl
      exact left.trans (State.setRx_buffersOnly _ _)
  all_goals exact .refl s

theorem State.BufferMove.buffersOnly {s t : State} (h : s.BufferMove t) : s.BuffersOnly t := by
  cases h with
  | wait | beginBreak | endBreak | store | err | loseFrame => exact s.setRx_buffersOnly _
  | openFrame => exact (s.setRx_buffersOnly _).trans (State.setRx_buffersOnly _ _)
  | breakFrame why | dropFrame why =>
    exact ((s.setRx_buffersOnly _).trans (State.setRx_buffersOnly _ _)).trans (State.discard_buffersOnly _ why)
  | renewFrame why => exact (s.discard_buffersOnly why).trans (State.setRx_buffersOnly _ _)
  | takeFrame =>
    exact ((s.setRx_buffersOnly _).trans (State.evalLineErrors_buffersOnly _)).trans (State.setRx_buffersOnly _ _)
  | passFrame a f mark =>
    exact ((s.setRx_buffersOnly _).trans (State.evalLineErrors_buffersOnly _)).trans (State.dispose_buffersOnly _ f mark)
  | bringFrame f mark => exact (s.setRx_buffersOnly _).trans (State.dispose_buffersOnly _ f mark)
  | sent => exact s.returnSentBuffer_buffersOnly.trans (State.setPort_buffersOnly rfl rfl)

/-- What a change of the Time Base keeps: all but the Time Base and the SYNC_LOST condition. -/
structure State.TimeOnly (s t : State) : Prop where
  rx : t.rx = s.rx
  port : t.port = s.port
  sched : t.sched = s.sched
  out : t.out = s.out
  cap : t.cap = s.cap
  notices : t.notices = s.notices
  addr : t.addr = s.addr
  owner : t.owner = s.owner
  cfg : t.cfg = s.cfg
  pending : t.pending = s.pending
  active : ∀ k, k ≠ FaultKind.syncLost → t.isActive k = s.isActive k

theorem State.TimeMove.timeOnly {s t : State} (h : s.TimeMove c t) : s.TimeOnly t := by
  cases h with
  | acquire m e =>
    constructor <;> first | rfl | exact fun k h => by rw [State.isActive_deactivate]; simp [h.symm, State.isActive, State.stepTo]
  | expire =>
    constructor <;> first | rfl | exact fun k h => by rw [State.isActive_activate]; simp [h.symm, State.isActive, State.enterUnsynced]
  | _ => constructor <;> first | rfl | exact fun _ _ => rfl

/-- What a change of the Capture Unit keeps: all else. -/
theorem State.CaptureMove.eq_setCap {s t : State} (h : s.CaptureMove t) : t = s.setCap t.cap := by
  cases h <;> rfl

/-- R184: what an ADDRESS write that is taken has checked, and what it does. -/
theorem State.writeAddress_eq_ok {s t : State} {n : Fin 8} {v : AddressValue} (h : s.writeAddress n v = (.ok, t)) :
    t = s.setAddr (s.addr.set n (AddressValue.entry v)) ∧
    ((AddressValue.entry v).isSome = true →
      v.address ≠ 0x00 ∧ v.address ≠ 0xFF ∧ duplicateAddress s.addr n v.address = false) ∧
    hasManagement (s.addr.set n (AddressValue.entry v)) = true := by
  unfold State.writeAddress at h
  dsimp only at h
  split_ifs at h with range duplicate lockout <;> cases h
  refine ⟨rfl, fun held => ?_, by simpa using lockout⟩
  simp only [held, Bool.true_and, Bool.or_eq_true, decide_eq_true_eq, not_or, Bool.not_eq_true] at range duplicate
  exact ⟨range.1, range.2, duplicate⟩

/-- R138: what a CHANNEL write that is taken does. -/
theorem State.writeChannel_eq_ok {s t : State} {n : Fin 16} {v : ChannelValue} (h : s.writeChannel n v = (.ok, t)) :
    ∃ e k, t = s.setOut { table := s.out.table.set n e, chans := s.out.chans.set n k } ∧
      (k = s.out.chans[n] ∨ k = { s.out.chans[n] with level := false, pulseEnd := none }) := by
  unfold State.writeChannel at h
  dsimp only at h
  split at h
  · cases h
  · split_ifs at h <;> cases h
    · exact ⟨_, _, rfl, .inr rfl⟩
    · exact ⟨_, _, rfl, .inl rfl⟩

/-- What a change of the tables, CONFIG or the owner keeps, up to what a raise of LINE_ERRORS does: the blocks that hold
no table. -/
structure State.TablesOnly (s t : State) : Prop where
  rx : t.rx = s.rx
  port : t.port = s.port
  time : t.time = s.time
  cap : t.cap = s.cap
  pending : t.pending = s.pending
  sched_free : t.sched.free = s.sched.free
  sched_wheel : t.sched.wheel = s.sched.wheel
  outstanding : t.notices.outstanding = s.notices.outstanding
  active : ∀ k, k ≠ FaultKind.lineErrors → t.isActive k = s.isActive k
  sched : ∃ u : State, u.sched = s.sched ∧ u.MayFreeze t
  notices : s.NoticesGrow t

theorem State.TableMove.tablesOnly {s t : State} (h : s.TableMove c t) : s.TablesOnly t := by
  have quiet : ∀ {u : State}, u.rx = s.rx → u.port = s.port → u.time = s.time → u.cap = s.cap → u.pending = s.pending →
      u.sched = s.sched → u.notices = s.notices → u.faults = s.faults → s.TablesOnly u :=
    fun rx port time cap pending sched notices faults =>
      ⟨rx, port, time, cap, pending, by rw [sched], by rw [sched], by rw [notices],
        fun _ _ => State.isActive_congr (by rw [faults]) _, ⟨_, sched, .same rfl rfl⟩, .same notices⟩
  cases h with
  | config | owner => exact quiet rfl rfl rfl rfl rfl rfl rfl rfl
  | limit v cfg =>
    have raises := (s.setCfg cfg).evalLineErrors_raises
    exact ⟨by simp, by simp, by simp, by simp, by simp, by simp, by simp, by simp,
      fun _ hk => (s.setCfg cfg).evalLineErrors_isActive_ne hk, ⟨s.setCfg cfg, rfl, raises.freeze⟩, raises.notices⟩
  | address n v written =>
    obtain ⟨rfl, -⟩ := State.writeAddress_eq_ok written
    exact quiet rfl rfl rfl rfl rfl rfl rfl rfl
  | channel n v may written =>
    obtain ⟨e, k, rfl, -⟩ := State.writeChannel_eq_ok written
    exact quiet rfl rfl rfl rfl rfl rfl rfl rfl

/-! ## Steps -/

/-- A property that every change keeps is kept by a chain of changes. -/
theorem State.Reaches.keeps {P : State → Prop} (change : ∀ {s t : State}, s.Change c t → P s → P t) {s t : State}
    (h : s.Reaches c t) (hs : P s) : P t := by
  induction h with
  | refl => exact hs
  | tail _ last ih => exact change last ih

/-- A property that the two resets establish and every change keeps, and that does not look at the queue, is kept by a
step. -/
theorem step_keeps {P : State → Prop} (queue : ∀ s q, P s → P (s.setPending q))
    (reset : ∀ straps inputs held choices pending,
      P { State.released straps inputs with resetHeld := held, choices := choices, pending := pending })
    (change : ∀ {c : Instr} {s t : State}, s.Change c t → P s → P t) {s t : State} (hs : P s) (h : step s = .next t) :
    P t := by
  unfold step at h
  split at h
  · cases h; exact hs
  · rename_i c rest _
    by_cases low : c = .resetNLow
    · subst low; cases h; exact reset _ _ _ _ _
    · by_cases release : ∃ straps inputs, c = .resetRelease straps inputs
      · obtain ⟨straps, inputs, rfl⟩ := release
        cases h; exact reset _ _ _ _ _
      · exact (exec_reaches h low fun a b e => release ⟨a, b, e⟩).keeps change (queue s rest hs)

end Sys2Proof.Machine
end

section
/-! The pool and the wheel: every change keeps every record on the free list or linked, and every linked record sound. -/

namespace Sys2Proof.Machine

variable {c : Instr}

/-! ## The pool (R68) -/

/-- The numbers of the free records and of the linked ones. -/
def State.ids (s : State) : List Nat := s.sched.free ++ s.sched.wheel.map (·.id)

theorem State.ids_congr {s t : State} (free : t.sched.free = s.sched.free) (wheel : t.sched.wheel = s.sched.wheel) :
    t.ids = s.ids := by
  rw [State.ids, State.ids, free, wheel]

theorem State.ids_freeRecord {s : State} {id : Nat} (linked : id ∈ s.sched.wheel.map (·.id)) :
    (s.freeRecord id).ids.Perm s.ids := by
  have unlinked : (s.freeRecord id).ids = s.sched.free ++ [id] ++ (s.sched.wheel.map (·.id)).erase id := by
    rw [← State.ids_unlink]; rfl
  rw [unlinked, List.append_assoc]
  exact (List.perm_cons_erase linked).symm.append_left _

theorem State.ids_linkRecord {s t : State} {fill : Nat → ActionRecord} (own : ∀ id, (fill id).id = id)
    (h : s.linkRecord fill = some t) : t.ids.Perm s.ids := by
  obtain ⟨id, rest, free, -, rfl⟩ := State.linkRecord_eq_some h
  have tail : (s.setSched { s.sched with free := rest, wheel := s.sched.wheel ++ [fill id] }).ids =
      rest ++ s.sched.wheel.map (·.id) ++ [id] := by
    simp [State.ids, own]
  rw [tail, State.ids, free]
  exact List.perm_append_singleton id _

theorem State.ids_relink {s t : State} {r kept : ActionRecord} {due : SlotNo} (found : s.findRecord kept.id = some r)
    (h : s.relink kept due = some t) : t.ids.Perm s.ids := by
  rw [(State.relink_eq_some h).2]
  have moved : ((s.unlink kept.id).setSched { (s.unlink kept.id).sched with
      wheel := (s.unlink kept.id).sched.wheel ++ [{ kept with due := due }] }).ids =
      s.sched.free ++ ((s.sched.wheel.map (·.id)).erase kept.id ++ [kept.id]) := by
    rw [← State.ids_unlink]; simp [State.ids]
  rw [moved]
  exact ((List.perm_append_singleton _ _).trans
    (List.perm_cons_erase (State.findRecord_mem_ids found)).symm).append_left _

theorem State.ids_clearRecords (s : State) : s.clearRecords.ids = s.ids := by
  simp [State.ids, State.clearRecords]

theorem State.Effect.ids_perm {s t : State} (h : s.Effect c t) : t.ids.Perm s.ids := by
  cases h with
  | link live sound linked => exact State.ids_linkRecord (fun id => (sound id).1) linked
  | free linked => exact State.ids_freeRecord linked
  | relink found sound moved => exact State.ids_relink found moved
  | clear => rw [State.ids_clearRecords]
  | offer b => exact .of_eq (State.ids_congr (by simp) (by simp))
  | raise k time => exact .of_eq (State.ids_congr (by simp) (by simp))
  | halt =>
    unfold State.haltNow
    split
    · rfl
    · exact .of_eq s.ids_clearRecords
    · exact .of_eq s.ids_clearRecords
  | safe =>
    unfold State.safeNow
    split <;> rfl
  | slot | act | acknowledge | run | endPulse => exact .refl _

@[simp] theorem State.restartEffect_free (s : State) :
    s.restartEffect.sched.free = s.sched.free ++ s.sched.wheel.map (·.id) := rfl
@[simp] theorem State.restartEffect_wheel (s : State) : s.restartEffect.sched.wheel = [] := rfl
@[simp] theorem State.restartEffect_sched_state (s : State) : s.restartEffect.sched.state = .halted := rfl

theorem State.Change.ids_perm {s t : State} (h : s.Change c t) : t.ids.Perm s.ids := by
  cases h with
  | effect h => exact h.ids_perm
  | port h => rw [State.ids, h.portOnly.sched]; rfl
  | buffer h => rw [State.ids_congr h.buffersOnly.sched_free h.buffersOnly.sched_wheel]
  | time h => rw [State.ids, h.timeOnly.sched]; rfl
  | capture h => rw [h.eq_setCap]; rfl
  | table h => rw [State.ids_congr h.tablesOnly.sched_free h.tablesOnly.sched_wheel]
  | restart => exact .of_eq (by simp [State.ids])

/-- Settles O6: every change permutes the numbers of the free and the linked records. -/
theorem stepKeepsPoolWhole : Obligations.StepKeepsPoolWhole := by
  intro s t whole h
  refine step_keeps (P := State.PoolWhole) (fun _ _ => id) (fun _ _ _ _ _ => ?reset) (fun change => ?change) whole h
  case reset => simp [State.PoolWhole, State.released, Scheduler.reset]
  case change => exact change.ids_perm.trans

/-! ## The wheel (R65, R70, R78) -/

/-- A wheel whose slot lists fit, that is empty in HALTED, and whose records are sound. -/
def State.WheelSound (s : State) : Prop := s.ListsFit ∧ s.HaltedEmpty ∧ s.RecordsSound

theorem State.WheelSound.empty {s : State} (h : s.sched.wheel = []) : s.WheelSound := by
  refine ⟨fun i => ?_, fun _ => h, fun r hr => ?_⟩
  · simp [State.slotList, h]
  · simp [h] at hr

/-- A wheel that has lost records, in a part not halted since, is sound still. -/
theorem State.WheelSound.sublist {s t : State} (h : s.WheelSound) (wheel : t.sched.wheel.Sublist s.sched.wheel)
    (halted : t.sched.state = .halted → s.sched.state = .halted) : t.WheelSound := by
  obtain ⟨fit, empty, sound⟩ := h
  refine ⟨fun i => ?_, fun h => ?_, fun r hr => sound r (wheel.subset hr)⟩
  · exact ((wheel.filter _).length_le).trans (fit i)
  · have gone := empty (halted h)
    rw [gone] at wheel
    exact List.sublist_nil.mp wheel

theorem State.WheelSound.same {s t : State} (h : s.WheelSound) (wheel : t.sched.wheel = s.sched.wheel)
    (halted : t.sched.state = .halted → s.sched.state = .halted) : t.WheelSound :=
  h.sublist (wheel ▸ List.Sublist.refl _) halted

/-- R70, R71: a sound record joins a list that has a place, in a part that is not halted. -/
theorem State.WheelSound.append {s : State} {r : ActionRecord} {v : Scheduler} (h : s.WheelSound)
    (wheel : v.wheel = s.sched.wheel ++ [r]) (live : v.state ≠ .halted) (place : s.listHasPlace r.due = true)
    (sound : r.Sound) : (s.setSched v).WheelSound := by
  obtain ⟨fit, -, sounds⟩ := h
  refine ⟨fun i => ?_, fun halted => absurd halted live, fun x hx => ?_⟩
  · have list : (s.setSched v).slotList i = s.slotList i ++ (if slotIndex r.due = i then [r] else []) := by
      simp [State.slotList, wheel, List.filter_append, List.filter_cons]
    rw [list]
    split
    · rename_i here
      have room : (s.slotList (slotIndex r.due)).length < 32 := by simpa [State.listHasPlace] using place
      rw [here] at room
      simp only [List.length_append, List.length_singleton]
      omega
    · simpa using fit i
  · simp only [State.setSched_sched, wheel, List.mem_append, List.mem_singleton] at hx
    rcases hx with hx | rfl
    · exact sounds x hx
    · exact sound

theorem State.unlink_wheel_sublist (s : State) (id : Nat) : (s.unlink id).sched.wheel.Sublist s.sched.wheel :=
  List.eraseP_sublist

/-- R107: a FREEZE response halts no part. -/
theorem State.freezeResponse_halted_iff (s : State) :
    s.freezeResponse.sched.state = .halted ↔ s.sched.state = .halted := by
  unfold State.freezeResponse
  split <;> simp_all

theorem State.MayFreeze.halted {s t : State} (h : s.MayFreeze t) : t.sched.state = .halted → s.sched.state = .halted := by
  rcases h with ⟨sched, -⟩ | ⟨sched, -⟩
  · rw [sched]; exact id
  · rw [sched]; exact s.freezeResponse_halted_iff.mp

theorem State.Effect.keeps_wheelSound {s t : State} (h : s.Effect c t) (hs : s.WheelSound) : t.WheelSound := by
  cases h with
  | link live sound linked =>
    obtain ⟨id, rest, -, place, rfl⟩ := State.linkRecord_eq_some linked
    exact hs.append rfl live place (sound id).2
  | free => exact hs.sublist (s.unlink_wheel_sublist _) id
  | relink found sound moved =>
    obtain ⟨place, rfl⟩ := State.relink_eq_some moved
    obtain ⟨linked, -⟩ := State.findRecord_eq_some found
    have live : s.sched.state ≠ .halted := fun halted => by simp [hs.2.1 halted] at linked
    exact (hs.sublist (t := s.unlink _) (s.unlink_wheel_sublist _) id).append rfl live place (sound (hs.2.2 _ linked))
  | clear => exact .empty rfl
  | offer b => exact hs.same (by simp) (s.offerNotice_raises b).freeze.halted
  | raise k time => exact hs.same (by simp) (s.raise_raises k time).freeze.halted
  | run => exact hs.same rfl (by simp)
  | halt =>
    unfold State.haltNow
    split
    · exact hs
    all_goals exact .empty rfl
  | safe =>
    refine hs.same ?_ ?_
    all_goals
      unfold State.safeNow
      split
      all_goals simp
  | slot | act | acknowledge | endPulse => exact hs

theorem State.Change.keeps_wheelSound {s t : State} (h : s.Change c t) (hs : s.WheelSound) : t.WheelSound := by
  cases h with
  | effect h => exact h.keeps_wheelSound hs
  | port h => exact hs.same (by rw [h.portOnly.sched]) (by rw [h.portOnly.sched]; exact id)
  | buffer h => exact hs.same h.buffersOnly.sched_wheel h.buffersOnly.raises.freeze.halted
  | time h => exact hs.same (by rw [h.timeOnly.sched]) (by rw [h.timeOnly.sched]; exact id)
  | capture h => rw [h.eq_setCap]; exact hs
  | table h =>
    obtain ⟨u, sched, frozen⟩ := h.tablesOnly.sched
    exact hs.same h.tablesOnly.sched_wheel (sched ▸ frozen.halted)
  | restart => exact .empty rfl

/-- Settles O7: every change keeps the lists within their places, the wheel empty in HALTED, and the records sound. -/
theorem stepKeepsWheelSound : Obligations.StepKeepsWheelSound := by
  intro s t fit empty sound h
  exact step_keeps (P := State.WheelSound) (fun _ _ => id) (fun _ _ _ _ _ => .empty rfl)
    State.Change.keeps_wheelSound ⟨fit, empty, sound⟩ h

end Sys2Proof.Machine
end

section
/-! The Output Port's operations field by field, and the buffers: every change keeps the 16 buffers accounted for. -/

namespace Sys2Proof.Machine

variable {c : Instr}

/-! ## Transmit starts, field by field (R42, R43) -/

@[simp] theorem State.assemble_forward (s : State) (d : ReplyDesc) : (s.assemble d).2.port.forward = s.port.forward := by
  unfold State.assemble
  split <;> rfl
@[simp] theorem State.assemble_replies (s : State) (d : ReplyDesc) : (s.assemble d).2.port.replies = s.port.replies := by
  unfold State.assemble
  split <;> rfl

/-- R42: what the start of a reply does to the Output Port. -/
theorem State.startReply_cases (s : State) :
    (s.port.replies = [] ∧ s.startReply = s) ∨
    ∃ d rest octets doneAt, s.port.replies = d :: rest ∧
      s.startReply = (((s.setPort { s.port with replies := rest }).assemble d).2.setPort
        { ((s.setPort { s.port with replies := rest }).assemble d).2.port with
          credit := 0, tx := .sendingReply octets doneAt d.restartMark }) := by
  unfold State.startReply
  split
  · rename_i none
    exact .inl ⟨none, rfl⟩
  · rename_i d rest waiting
    exact .inr ⟨d, rest, _, _, waiting, rfl⟩

/-- R43: what the start of a forwarded frame does. -/
theorem State.startForward_cases (s : State) (credit : Nat) :
    (s.port.forward = [] ∧ s.startForward credit = s) ∨
    (s.port.forward ≠ [] ∧ ∃ octets doneAt,
      s.startForward credit = s.setPort { s.port with credit := credit, tx := .sendingForward octets doneAt }) := by
  unfold State.startForward
  split
  · rename_i none
    exact .inl ⟨none, rfl⟩
  · rename_i waiting
    exact .inr ⟨by simp [waiting], _, _, rfl⟩

@[simp] theorem State.startReply_forward (s : State) : s.startReply.port.forward = s.port.forward := by
  rcases s.startReply_cases with ⟨-, h⟩ | ⟨d, rest, octets, doneAt, -, h⟩ <;> simp [h]

@[simp] theorem length_markLast (q : List Forwarded) : (markLast q).length = q.length := by
  induction q using markLast.induct <;> simp_all [markLast]

theorem mem_markLast {q : List Forwarded} {f : Forwarded} (h : f ∈ markLast q) : ∃ g ∈ q, f.frame = g.frame := by
  induction q using markLast.induct with
  | case1 => simp [markLast] at h
  | case2 g =>
    have : f = { g with restartMark := true } := by simpa [markLast] using h
    exact ⟨g, by simp, by rw [this]⟩
  | case3 g x rest ih =>
    simp only [markLast, List.mem_cons] at h ih
    rcases h with rfl | h
    · exact ⟨f, by simp, rfl⟩
    · obtain ⟨y, hy, same⟩ := ih h
      exact ⟨y, by simp [hy], same⟩

/-! ## The buffers (R8, R16, R36) -/

/-- A frame held by the frame assembly is no longer than a buffer stores. -/
def RxState.Fits : RxState → Prop
  | .assembling a => a.octets.length ≤ 249
  | .errored a _ => a.octets.length ≤ 249
  | .settling _ => True
  | .hunting => True
  | .skipping => True

@[simp] theorem RxState.held_settling (since : Ticks) : (RxState.settling since).held = 0 := rfl
@[simp] theorem RxState.held_hunting : RxState.hunting.held = 0 := rfl
@[simp] theorem RxState.held_skipping : RxState.skipping.held = 0 := rfl
@[simp] theorem RxState.held_assembling (a : Assembly) : (RxState.assembling a).held = 1 := rfl
@[simp] theorem RxState.held_errored (a : Assembly) (why : DiscardReason) : (RxState.errored a why).held = 1 := rfl

theorem RxState.fits_of_held_eq_zero {st : RxState} (h : st.held = 0) : st.Fits := by
  cases st <;> trivial

/-- The buffers accounted for, a frame being sent at the head of its queue, and every frame within a buffer. -/
def State.BuffersSound (s : State) : Prop := s.BuffersWhole ∧ s.SendsHead ∧ s.FramesFit

theorem State.buffersSound_iff (s : State) : s.BuffersSound ↔
    (s.rx.freeBuffers + s.rx.state.held + s.port.forward.length = 16 ∧ (s.rx.inBreak = true → s.rx.state.held = 0)) ∧
    (s.port.forward = [] → ∀ octets doneAt, s.port.tx ≠ .sendingForward octets doneAt) ∧
    s.rx.state.Fits ∧ ∀ f ∈ s.port.forward, f.frame.payload.length ≤ 240 := by
  have sends : s.SendsHead ↔ (s.port.forward = [] → ∀ octets doneAt, s.port.tx ≠ .sendingForward octets doneAt) := by
    unfold State.SendsHead
    split <;> simp_all
  have fits : s.FramesFit ↔ s.rx.state.Fits ∧ ∀ f ∈ s.port.forward, f.frame.payload.length ≤ 240 := by
    unfold State.FramesFit RxState.Fits
    cases s.rx.state <;> rfl
  rw [State.BuffersSound, sends, fits, State.BuffersWhole]

theorem State.BuffersSound.congr {s t : State} (h : s.BuffersSound) (rx : t.rx = s.rx) (port : t.port = s.port) :
    t.BuffersSound := by
  rw [State.buffersSound_iff] at h ⊢
  rwa [rx, port]

/-- A change of the receiver alone that keeps the number of buffers it accounts for. -/
theorem State.BuffersSound.setRx {s : State} (h : s.BuffersSound) (v : Receiver)
    (count : v.freeBuffers + v.state.held = s.rx.freeBuffers + s.rx.state.held)
    (broken : v.inBreak = true → v.state.held = 0) (fits : v.state.Fits) : (s.setRx v).BuffersSound := by
  rw [State.buffersSound_iff] at h ⊢
  obtain ⟨⟨whole, -⟩, sends, -, frames⟩ := h
  simp only [State.setRx_rx, State.setRx_port]
  exact ⟨⟨by omega, broken⟩, sends, fits, frames⟩

/-- A frame joins the Forward Queue in a buffer that the receiver gives up. -/
theorem State.BuffersSound.forwarded {s t : State} {v : Receiver} {f : Forwarded} (h : s.BuffersSound) (rx : t.rx = v)
    (port : t.port = { s.port with forward := s.port.forward ++ [f] })
    (count : v.freeBuffers + v.state.held + 1 = s.rx.freeBuffers + s.rx.state.held)
    (broken : v.inBreak = true → v.state.held = 0) (fits : v.state.Fits) (frame : f.frame.payload.length ≤ 240) :
    t.BuffersSound := by
  rw [State.buffersSound_iff] at h ⊢
  obtain ⟨⟨whole, -⟩, -, -, frames⟩ := h
  rw [rx, port]
  refine ⟨⟨?_, broken⟩, fun none => absurd none (by simp), fits, ?_⟩
  · simp only [List.length_append, List.length_singleton]
    omega
  · simpa [or_imp, forall_and] using ⟨frames, frame⟩

/-- A frame is disposed of in a buffer that the receiver gives up (R25, R35). -/
theorem State.BuffersSound.disposed {s t : State} (h : s.BuffersSound) (v : Receiver) (rx : t.rx = v)
    (port : t.port = s.port) (count : v.freeBuffers + v.state.held + 1 = s.rx.freeBuffers + s.rx.state.held)
    (broken : v.inBreak = true → v.state.held = 0) (fits : v.state.Fits) (f : Received) (mark : Octet)
    (frame : f.frame.payload.length ≤ 240) : (t.dispose f mark).BuffersSound := by
  unfold State.dispose
  split
  · refine (h.setRx { v with freeBuffers := v.freeBuffers + 1 } ?_ broken fits).congr (by rw [← rx]; rfl) port
    simp only
    omega
  · exact h.forwarded (t := t.setPort _) rx (by rw [← port]; rfl) count broken fits frame

/-- A change of the Output Port that keeps the frames of the Forward Queue. -/
theorem State.BuffersSound.setForward {s t : State} (h : s.BuffersSound) (rx : t.rx = s.rx)
    (length : t.port.forward.length = s.port.forward.length)
    (same : ∀ f ∈ t.port.forward, ∃ g ∈ s.port.forward, f.frame = g.frame)
    (sends : ∀ octets doneAt, t.port.tx = .sendingForward octets doneAt →
      s.port.forward ≠ [] ∨ s.port.tx = .sendingForward octets doneAt) : t.BuffersSound := by
  rw [State.buffersSound_iff] at h ⊢
  obtain ⟨whole, head, fits, frames⟩ := h
  rw [rx, length]
  refine ⟨whole, fun none octets doneAt sending => ?_, fits, fun f hf => ?_⟩
  · have empty : s.port.forward = [] := List.length_eq_zero_iff.mp (by rw [← length, none]; rfl)
    rcases sends octets doneAt sending with waiting | sent
    · exact waiting empty
    · exact head empty octets doneAt sent
  · obtain ⟨g, hg, eq⟩ := same f hf
    rw [eq]
    exact frames g hg

/-- A change of the Output Port that keeps the Forward Queue. -/
theorem State.BuffersSound.sameForward {s t : State} (h : s.BuffersSound) (rx : t.rx = s.rx)
    (forward : t.port.forward = s.port.forward)
    (sends : ∀ octets doneAt, t.port.tx = .sendingForward octets doneAt →
      s.port.forward ≠ [] ∨ s.port.tx = .sendingForward octets doneAt) : t.BuffersSound :=
  h.setForward rx (by rw [forward]) (fun f hf => ⟨f, forward ▸ hf, rfl⟩) sends

theorem State.PortMove.keeps_buffersSound {s t : State} (h : s.PortMove t) (hs : s.BuffersSound) : t.BuffersSound := by
  have rx := h.portOnly.rx
  cases h with
  | place =>
    rcases s.placeNotice_cases with ⟨-, -, -, h⟩ | ⟨-, h⟩
    · rw [h]; exact hs.sameForward rfl rfl fun _ _ => .inr
    · rw [h]; exact hs
  | reply =>
    refine hs.sameForward rx (by simp) fun octets doneAt sending => .inr ?_
    rcases s.startReply_cases with ⟨-, h⟩ | ⟨d, rest, o, at', -, h⟩
    · rwa [h] at sending
    · rw [h] at sending; cases sending
  | forward credit =>
    rcases s.startForward_cases credit with ⟨-, h⟩ | ⟨waiting, octets, doneAt, h⟩
    · rw [h]; exact hs
    · rw [h]; exact hs.sameForward rfl rfl fun _ _ _ => .inl waiting
  | idle => exact hs.sameForward rfl rfl fun _ _ sending => nomatch sending
  | choose => exact hs.sameForward rfl rfl fun _ _ => .inr
  | queue d => exact hs.sameForward rfl rfl fun _ _ => .inr
  | queueFirst d => exact hs.sameForward rfl rfl fun _ _ => .inr
  | markForward => exact hs.setForward rx (by simp) (fun f hf => mem_markLast hf) fun _ _ => .inr
  | markSending =>
    unfold State.markSending
    split
    · split
      · exact hs
      · rename_i f rest waiting
        refine hs.setForward rfl (by simp [waiting]) (fun g hg => ?_) fun _ _ _ => .inl (by simp [waiting])
        rw [waiting]
        rcases List.mem_cons.mp hg with rfl | old
        · exact ⟨f, by simp, rfl⟩
        · exact ⟨g, by simp [old], rfl⟩
    · exact hs.sameForward rfl rfl fun _ _ sending => nomatch sending
    · exact hs
    · exact hs

theorem State.BuffersSound.broken {s : State} (h : s.BuffersSound) : s.rx.inBreak = true → s.rx.state.held = 0 := h.1.2

theorem State.BuffersSound.fits {s : State} (h : s.BuffersSound) : s.rx.state.Fits :=
  (s.buffersSound_iff.mp h).2.2.1

/-- R36, R40: the item sent leaves its buffer, and the gap begins. -/
theorem State.BuffersSound.sent {s : State} (h : s.BuffersSound) : s.returnSentBuffer.enterGap.BuffersSound := by
  have gap : ∀ {t : State}, t.port.forward = s.port.forward → t.rx = s.rx → t.enterGap.BuffersSound :=
    fun forward rx => h.sameForward rx forward fun _ _ sending => nomatch sending
  unfold State.returnSentBuffer
  split
  · split
    · exact gap rfl rfl
    · rename_i f rest waiting
      rw [State.buffersSound_iff] at h ⊢
      obtain ⟨⟨whole, broken⟩, -, fits, frames⟩ := h
      rw [waiting] at whole frames
      simp only [List.length_cons] at whole
      refine ⟨⟨?_, broken⟩, nofun, fits, fun g hg => frames g (List.mem_cons_of_mem _ hg)⟩
      show s.rx.freeBuffers + 1 + s.rx.state.held + rest.length = 16
      omega
  all_goals exact gap rfl rfl

theorem State.BufferMove.keeps_buffersSound {s t : State} (h : s.BufferMove t) (hs : s.BuffersSound) :
    t.BuffersSound := by
  have fits := hs.fits
  have unbroken : s.rx.state.held = 1 → s.rx.inBreak = false := fun held =>
    Bool.eq_false_iff.mpr fun broken => by simp [hs.broken broken] at held
  cases h with
  | wait st before after =>
    exact hs.setRx _ (by simp [before, after]) (fun _ => after) (RxState.fits_of_held_eq_zero after)
  | beginBreak before => exact hs.setRx _ (by simp [before]) (fun _ => rfl) trivial
  | endBreak now broken => exact hs.setRx _ (by simp [hs.broken broken]) nofun trivial
  | store a o assembling room =>
    refine hs.setRx _ (by simp [assembling]) (by simp [unbroken, assembling]) ?_
    simp only [RxState.Fits, List.length_append, List.length_singleton]
    omega
  | err a why assembling =>
    rw [assembling] at fits
    exact hs.setRx _ (by simp [assembling]) (by simp [unbroken, assembling]) fits
  | openFrame before whole room =>
    refine hs.setRx _ ?_ (by simp [whole]) (Nat.zero_le _)
    simp only [State.setRx_rx, RxState.held_assembling, before]
    omega
  | loseFrame before => exact hs.setRx _ (by simp [before]) (fun _ => rfl) trivial
  | breakFrame why before =>
    refine (hs.setRx ((s.beginBreak .hunting).releaseBuffer.discard why).rx ?_ ?_ ?_).congr rfl ?_
    all_goals simp [State.discard, State.releaseBuffer, State.beginBreak, before, RxState.Fits]
  | dropFrame why before =>
    refine (hs.setRx ((s.setRxState .hunting).releaseBuffer.discard why).rx ?_ ?_ ?_).congr rfl ?_
    all_goals simp [State.discard, State.releaseBuffer, State.setRxState, before, RxState.Fits]
  | renewFrame why before whole =>
    refine (hs.setRx (s.discard why).beginFrame.rx ?_ ?_ ?_).congr rfl ?_
    all_goals simp [State.discard, State.beginFrame, State.setRxState, before, whole, RxState.Fits]
  | takeFrame before =>
    refine (hs.setRx { s.rx with state := .hunting, badCount := 0, freeBuffers := s.rx.freeBuffers + 1 } ?_ ?_ ?_).congr
      ?_ ?_
    all_goals simp [State.releaseBuffer, before, RxState.Fits]
  | passFrame a f mark assembling frame =>
    rw [assembling] at fits
    refine hs.disposed { s.rx with state := .hunting, badCount := 0 } (by simp) (by simp) ?_ (fun _ => rfl) trivial f mark
      (frame fits)
    simp [assembling]
  | bringFrame f mark room frame =>
    refine hs.disposed (t := s.setRx _) { s.rx with freeBuffers := s.rx.freeBuffers - 1 } rfl rfl ?_ hs.broken fits f mark frame
    simp only
    omega
  | sent => exact hs.sent

theorem State.restartEffect_buffersSound (s : State) : s.restartEffect.BuffersSound := by
  exact (State.buffersSound_iff _).mpr ⟨⟨rfl, fun _ => rfl⟩, nofun, trivial, nofun⟩

theorem State.Change.keeps_buffersSound {s t : State} (h : s.Change c t) (hs : s.BuffersSound) : t.BuffersSound := by
  cases h with
  | effect h => exact hs.congr h.effectsOnly.rx h.effectsOnly.port
  | port h => exact h.keeps_buffersSound hs
  | buffer h => exact h.keeps_buffersSound hs
  | time h => exact hs.congr h.timeOnly.rx h.timeOnly.port
  | capture h => rw [h.eq_setCap]; exact hs
  | table h => exact hs.congr h.tablesOnly.rx h.tablesOnly.port
  | restart => exact s.restartEffect_buffersSound

/-- Settles O8: every change accounts for the buffers, and forwards no frame longer than one stores. -/
theorem stepKeepsBuffersWhole : Obligations.StepKeepsBuffersWhole := by
  intro s t whole head fit h
  refine step_keeps (P := State.BuffersSound) (fun _ _ => id) (fun _ _ _ _ _ => ?reset)
    State.Change.keeps_buffersSound ⟨whole, head, fit⟩ h
  case reset =>
    exact (State.buffersSound_iff _).mpr ⟨⟨rfl, fun _ => rfl⟩, nofun, trivial, nofun⟩

end Sys2Proof.Machine
end

section
/-! The Reply Queue, the Notice Queue, the Capture Ring and the channels: every change keeps them sound. -/

namespace Sys2Proof.Machine

variable {c : Instr}

/-! ## The queues (R37, R38, R168, R173) -/

/-- The Reply Queue and the Notice Queue within their capacities and consistent. -/
def State.QueuesSound (s : State) : Prop := s.RepliesFit ∧ s.NoticesFit

/-- A change that keeps the Reply Queue and at most offers notices. -/
theorem State.QueuesSound.same {s t : State} (h : s.QueuesSound) (replies : t.port.replies = s.port.replies)
    (outstanding : t.notices.outstanding = s.notices.outstanding) (grow : s.NoticesGrow t) : t.QueuesSound := by
  obtain ⟨⟨room, one⟩, fit, waiting⟩ := h
  refine ⟨⟨?_, ?_⟩, grow.1 fit, fun h => grow.2 (waiting (outstanding ▸ h))⟩
  · rwa [replies]
  · rwa [replies, outstanding]

theorem State.Effect.noticesGrow {s t : State} (h : s.Effect c t) : s.NoticesGrow t := by
  cases h with
  | link live sound linked =>
    obtain ⟨id, rest, -, -, rfl⟩ := State.linkRecord_eq_some linked
    exact .same rfl
  | relink found sound moved => rw [(State.relink_eq_some moved).2]; exact .same rfl
  | offer b => exact (s.offerNotice_raises b).notices
  | raise k time => exact (s.raise_raises k time).notices
  | halt => unfold State.haltNow; split <;> exact .same rfl
  | safe => unfold State.safeNow; split <;> exact .same rfl
  | free | clear | slot | act | acknowledge | run | endPulse => exact .same rfl

/-- A descriptor that is no NOTICE joins a Reply Queue that has a place. -/
theorem State.QueuesSound.queue {s t : State} {d : ReplyDesc} (h : s.QueuesSound)
    (replies : t.port.replies = s.port.replies ++ [d] ∨ t.port.replies = d :: s.port.replies)
    (room : s.port.replies.length < 8) (body : d.body ≠ .notice) (notices : t.notices = s.notices) : t.QueuesSound := by
  obtain ⟨⟨-, one⟩, fit⟩ := h
  refine ⟨?_, by rwa [State.NoticesFit, notices]⟩
  unfold State.RepliesFit
  rw [notices, ← one]
  rcases replies with replies | replies <;> rw [replies]
  · exact ⟨by simp; omega, by simp [body]⟩
  · exact ⟨by simp; omega, by simp [body]⟩

theorem State.placeNotice_keeps_queuesSound {s : State} (h : s.QueuesSound) : s.placeNotice.QueuesSound := by
  rcases s.placeNotice_cases with ⟨waiting, free, room, placed⟩ | ⟨-, same⟩
  · obtain ⟨⟨-, one⟩, fit, -⟩ := h
    rw [free] at one
    rw [placed]
    refine ⟨⟨?_, ?_⟩, fit, fun _ => waiting⟩
    · show (s.port.replies ++ [noticeDesc]).length ≤ 8
      simp only [List.length_append, List.length_singleton]
      omega
    · show ((s.port.replies ++ [noticeDesc]).filter _).length = 1
      rw [List.filter_append, List.length_append, one]
      simp [noticeDesc]
  · rwa [same]

/-- R42: the state a body is taken from, for a body that is no NOTICE. -/
theorem State.assemble_notices {s : State} {d : ReplyDesc} (h : d.body ≠ .notice) :
    (s.assemble d).2.notices = s.notices := by
  unfold State.assemble
  split
  · rfl
  · rfl
  · rfl
  · contradiction

/-- R174: the state a NOTICE body is taken from. -/
theorem State.assemble_notice {s : State} {d : ReplyDesc} (h : d.body = .notice) :
    (s.assemble d).2.notices = { queue := s.notices.queue.drop 12, outstanding := false } := by
  unfold State.assemble
  rw [h]
  rfl

theorem State.startReply_keeps_queuesSound {s : State} (h : s.QueuesSound) : s.startReply.QueuesSound := by
  rcases s.startReply_cases with ⟨-, same⟩ | ⟨d, rest, octets, doneAt, waiting, begun⟩
  · rwa [same]
  · obtain ⟨⟨room, one⟩, fit, held⟩ := h
    rw [waiting] at room one
    simp only [List.length_cons, List.filter_cons] at room one
    have replies : s.startReply.port.replies = rest := by rw [begun]; simp
    have notices : s.startReply.notices = ((s.setPort { s.port with replies := rest }).assemble d).2.notices := by
      rw [begun]; rfl
    by_cases body : d.body = .notice
    · rw [State.assemble_notice body] at notices
      simp only [body, decide_true, if_true, List.length_cons] at one
      have last : (rest.filter fun d => d.body = .notice).length = 0 := by
        split at one <;> omega
      refine ⟨⟨?_, ?_⟩, ?_, fun outstanding => ?_⟩
      · rw [replies]; omega
      · rw [replies, notices, last]; rfl
      · rw [notices]
        simp only [State.setPort_notices, List.length_drop]
        omega
      · simp [notices] at outstanding
    · rw [State.assemble_notices body] at notices
      simp only [body, decide_false, Bool.false_eq_true, if_false] at one
      refine ⟨⟨?_, ?_⟩, ?_⟩
      · rw [replies]; omega
      · rw [replies, notices]; exact one
      · rw [State.NoticesFit, notices]; exact ⟨fit, held⟩

theorem State.PortMove.keeps_queuesSound {s t : State} (h : s.PortMove t) (hs : s.QueuesSound) : t.QueuesSound := by
  cases h with
  | place => exact State.placeNotice_keeps_queuesSound hs
  | reply => exact State.startReply_keeps_queuesSound hs
  | forward credit =>
    rcases s.startForward_cases credit with ⟨-, same⟩ | ⟨-, octets, doneAt, begun⟩
    · rwa [same]
    · rw [begun]; exact hs.same rfl rfl (.same rfl)
  | queue d room body => exact hs.queue (.inl rfl) room body rfl
  | queueFirst d room body => exact hs.queue (.inr rfl) room body rfl
  | markSending =>
    unfold State.markSending
    split
    · split
      · exact hs
      · exact hs.same rfl rfl (.same rfl)
    · exact hs.same rfl rfl (.same rfl)
    · exact hs
    · exact hs
  | idle | choose | markForward => exact hs.same rfl rfl (.same rfl)

theorem State.Change.keeps_queuesSound {s t : State} (h : s.Change c t) (hs : s.QueuesSound) : t.QueuesSound := by
  cases h with
  | effect h => exact hs.same (by rw [h.effectsOnly.port]) h.effectsOnly.notices_outstanding h.noticesGrow
  | port h => exact h.keeps_queuesSound hs
  | buffer h => exact hs.same h.buffersOnly.replies h.buffersOnly.outstanding h.buffersOnly.raises.notices
  | time h => exact hs.same (by rw [h.timeOnly.port]) (by rw [h.timeOnly.notices]) (.same h.timeOnly.notices)
  | capture h => rw [h.eq_setCap]; exact hs
  | table h => exact hs.same (by rw [h.tablesOnly.port]) h.tablesOnly.outstanding h.tablesOnly.notices
  | restart => exact ⟨⟨Nat.zero_le _, rfl⟩, Nat.zero_le _, nofun⟩

/-- Settles O9: every change keeps both queues within their places and the NOTICE descriptor in step with its flag. -/
theorem stepKeepsQueuesFit : Obligations.StepKeepsQueuesFit := by
  intro s t replies notices h
  exact step_keeps (P := State.QueuesSound) (fun _ _ => id)
    (fun _ _ _ _ _ => ⟨⟨Nat.zero_le _, rfl⟩, Nat.zero_le _, nofun⟩) State.Change.keeps_queuesSound ⟨replies, notices⟩ h

/-! ## The Capture Ring (R146, R147, R149) -/

/-- At most 64 records, numbered one after the other up to just before the next sequence number. -/
def CaptureUnit.Consecutive (k : CaptureUnit) : Prop :=
  k.ring.length ≤ 64 ∧
  ∀ i (h : i < k.ring.length), k.ring[i].seq = k.nextSeq - BitVec.ofNat 16 (k.ring.length - i)

theorem CaptureUnit.Consecutive.same {k l : CaptureUnit} (h : k.Consecutive) (ring : l.ring = k.ring)
    (nextSeq : l.nextSeq = k.nextSeq) : l.Consecutive := by
  unfold CaptureUnit.Consecutive at h ⊢
  rw [nextSeq]
  simpa only [ring] using h

/-- R147: a record stored takes the next sequence number. -/
theorem CaptureUnit.Consecutive.store {k : CaptureUnit} (h : k.Consecutive) (line : Fin 8) (edge : Edge) (time : Ticks)
    (sync : SyncState) : (k.store line edge time sync).Consecutive := by
  obtain ⟨-, seqs⟩ := id h
  unfold CaptureUnit.store
  split
  · rename_i room
    refine ⟨by simpa using room, fun i hi => ?_⟩
    simp only [List.length_append, List.length_singleton] at hi ⊢
    by_cases old : i < k.ring.length
    · rw [List.getElem_append_left old, seqs i old]
      have further : k.ring.length + 1 - i = k.ring.length - i + 1 := by omega
      rw [further, BitVec.ofNat_add]
      exact (add_sub_add_right_eq_sub _ _ _).symm
    · have last : i = k.ring.length := by omega
      subst last
      simp
  · exact h.same rfl rfl

/-- R149: the records left after an acknowledgement are the newest ones. -/
theorem CaptureUnit.Consecutive.drop {k : CaptureUnit} (h : k.Consecutive) (n : Nat) :
    ({ k with ring := k.ring.drop n } : CaptureUnit).Consecutive := by
  obtain ⟨fit, seqs⟩ := h
  refine ⟨by simp only [List.length_drop]; omega, fun i hi => ?_⟩
  simp only [List.length_drop] at hi ⊢
  rw [List.getElem_drop, seqs _ (by omega)]
  congr 2
  omega

theorem CaptureUnit.Consecutive.acknowledge {k : CaptureUnit} (h : k.Consecutive) (ackValid : Octet) (ackSeq : Half) :
    (k.acknowledge ackValid ackSeq).Consecutive := by
  unfold CaptureUnit.acknowledge
  split
  · split
    · split
      · exact h.drop _
      · exact h
    · exact h
  · exact h

theorem State.Change.keeps_ring {s t : State} (h : s.Change c t) (hs : s.cap.Consecutive) : t.cap.Consecutive := by
  cases h with
  | effect h => rwa [h.effectsOnly.cap]
  | port h => rw [h.portOnly.cap]; exact hs.same rfl rfl
  | buffer h => rwa [h.buffersOnly.cap]
  | time h => rwa [h.timeOnly.cap]
  | capture h =>
    cases h with
    | set v ring nextSeq => exact hs.same ring nextSeq
    | store line edge time sync => exact hs.store line edge time sync
    | acknowledge ackValid ackSeq => exact hs.acknowledge ackValid ackSeq
  | table h => rwa [h.tablesOnly.cap]
  | restart => exact ⟨Nat.zero_le _, nofun⟩

/-- Settles O10: every change keeps the ring consecutive up to the next sequence number. -/
theorem stepKeepsRingConsecutive : Obligations.StepKeepsRingConsecutive := by
  intro s t ring h
  exact step_keeps (P := fun s => s.cap.Consecutive) (fun _ _ => id) (fun _ _ _ _ _ => ⟨Nat.zero_le _, nofun⟩)
    State.Change.keeps_ring ring h

/-! ## The channels (R112, R127, R136) -/

/-- A pulse in progress is ACTIVE, and none is in progress while FROZEN. -/
def State.ChannelsSound (s : State) : Prop := s.PulsesActive ∧ s.FrozenStill

theorem State.ChannelsSound.congr {s t : State} (h : s.ChannelsSound) (state : t.sched.state = s.sched.state)
    (chans : t.out.chans = s.out.chans) : t.ChannelsSound := by
  unfold State.ChannelsSound State.PulsesActive State.FrozenStill at h ⊢
  rwa [state, chans]

/-- R136: after a drive no pulse is in progress. -/
theorem State.safeDrive_pulseEnd (s : State) (n : Fin 16) : s.safeDrive.out.chans[n].pulseEnd = none := by
  simp [State.safeDrive, safeOne]

/-- A part in which no pulse is in progress. -/
theorem State.ChannelsSound.still {s : State} (h : ∀ n : Fin 16, s.out.chans[n].pulseEnd = none) : s.ChannelsSound :=
  ⟨fun n pulse => absurd (h n) pulse, fun _ => h⟩

theorem State.safeDrive_channelsSound (s : State) : s.safeDrive.ChannelsSound := .still s.safeDrive_pulseEnd

theorem State.freezeResponse_keeps_channelsSound {s : State} (h : s.ChannelsSound) : s.freezeResponse.ChannelsSound := by
  unfold State.freezeResponse
  split
  · exact State.safeDrive_channelsSound _
  · exact s.safeDrive_channelsSound
  · exact h

theorem State.ChannelsSound.mayFreeze {s t : State} (h : s.ChannelsSound) (f : s.MayFreeze t) : t.ChannelsSound := by
  rcases f with ⟨sched, out⟩ | ⟨sched, out⟩
  · exact h.congr (by rw [sched]) (by rw [out])
  · exact (State.freezeResponse_keeps_channelsSound h).congr (by rw [sched]) (by rw [out])

/-- One channel takes a sound state: with no pulse, or ACTIVE in a part that is not FROZEN. -/
theorem State.ChannelsSound.setChannel {s t : State} {n : Fin 16} {k : ChannelState} (h : s.ChannelsSound)
    (state : t.sched.state = s.sched.state) (chans : t.out.chans = s.out.chans.set n k)
    (active : k.pulseEnd ≠ none → k.level = true) (still : s.sched.state = .frozen → k.pulseEnd = none) :
    t.ChannelsSound := by
  obtain ⟨pulses, frozen⟩ := h
  have at' : ∀ m : Fin 16, t.out.chans[m] = if n = m then k else s.out.chans[m] := by
    intro m
    rw [chans, Fin.getElem_fin, Vector.getElem_set]
    simp [Fin.ext_iff]
  refine ⟨fun m pulse => ?_, fun h m => ?_⟩
  · rw [at' m] at pulse ⊢
    split at pulse
    · rw [if_pos ‹_›]; exact active pulse
    · rw [if_neg ‹_›]; exact pulses m pulse
  · rw [at' m]
    rw [state] at h
    split
    · exact still h
    · exact frozen h m

theorem actOn_active (now : Ticks) (a : ChannelAction) (tag : Half) (k : ChannelState) :
    (actOn now a tag k).pulseEnd ≠ none → (actOn now a tag k).level = true := by
  cases a <;> simp [actOn]

theorem State.Effect.keeps_channelsSound {s t : State} (h : s.Effect c t) (hs : s.ChannelsSound) : t.ChannelsSound := by
  cases h with
  | link live sound linked =>
    obtain ⟨id, rest, -, -, rfl⟩ := State.linkRecord_eq_some linked
    exact hs
  | relink found sound moved => rw [(State.relink_eq_some moved).2]; exact hs
  | act r running =>
    exact hs.setChannel rfl rfl (actOn_active _ _ _ _) fun frozen => by simp [running] at frozen
  | offer b => exact hs.mayFreeze (s.offerNotice_raises b).freeze
  | raise k time => exact hs.mayFreeze (s.raise_raises k time).freeze
  | run => exact ⟨hs.1, nofun⟩
  | halt =>
    unfold State.haltNow
    split
    · exact hs
    all_goals exact ⟨hs.1, nofun⟩
  | safe =>
    unfold State.safeNow
    split <;> exact State.safeDrive_channelsSound _
  | endPulse n due => exact hs.setChannel rfl rfl nofun fun _ => rfl
  | free | clear | slot | acknowledge => exact hs

theorem State.TableMove.keeps_channelsSound {s t : State} (h : s.TableMove c t) (hs : s.ChannelsSound) :
    t.ChannelsSound := by
  cases h with
  | config | owner => exact hs
  | limit v cfg => exact State.ChannelsSound.mayFreeze (s := s.setCfg cfg) hs (State.evalLineErrors_raises _).freeze
  | address n v written => rw [(State.writeAddress_eq_ok written).1]; exact hs
  | channel n v may written =>
    obtain ⟨e, k, rfl, same | ended⟩ := State.writeChannel_eq_ok written
    · exact hs.setChannel rfl rfl (by rw [same]; exact hs.1 n) fun frozen => by rw [same]; exact hs.2 frozen n
    · exact hs.setChannel rfl rfl (by rw [ended]; nofun) fun _ => by rw [ended]

theorem State.restartEffect_channelsSound (s : State) : s.restartEffect.ChannelsSound := by
  refine .still fun n => ?_
  show (s.safeDrive.out.chans[n]).pulseEnd = none
  exact s.safeDrive_pulseEnd n

theorem State.Change.keeps_channelsSound {s t : State} (h : s.Change c t) (hs : s.ChannelsSound) : t.ChannelsSound := by
  cases h with
  | effect h => exact h.keeps_channelsSound hs
  | port h => exact hs.congr (by rw [h.portOnly.sched]) (by rw [h.portOnly.out])
  | buffer h => exact hs.mayFreeze h.buffersOnly.raises.freeze
  | time h => exact hs.congr (by rw [h.timeOnly.sched]) (by rw [h.timeOnly.out])
  | capture h => rw [h.eq_setCap]; exact hs
  | table h => exact h.keeps_channelsSound hs
  | restart => exact s.restartEffect_channelsSound

/-- Settles O11: every change keeps a pulse ACTIVE, and starts none while FROZEN. -/
theorem stepKeepsChannelsSound : Obligations.StepKeepsChannelsSound := by
  intro s t pulses still h
  refine step_keeps (P := State.ChannelsSound) (fun _ _ => id) (fun _ _ _ _ _ => .still fun n => ?reset)
    State.Change.keeps_channelsSound ⟨pulses, still⟩ h
  case reset => simp [State.released, Outputs.reset, ChannelState.reset]

end Sys2Proof.Machine
end

section
/-! The Address Table, CONFIG with the conditions that follow it, the Time Base and the restart mark: every change keeps
them sound. -/

namespace Sys2Proof.Machine

variable {c : Instr}

/-! ## The Address Table (R22, R184) -/

theorem State.addr_set_get (t : Vector (Option Station) 8) (n i : Fin 8) (e : Option Station) :
    (t.set n e)[i] = if n = i then e else t[i] := by
  rw [Fin.getElem_fin, Vector.getElem_set]
  simp [Fin.ext_iff]

/-- R184: another entry holds the Address. -/
theorem duplicateAddress_eq_false {t : Vector (Option Station) 8} {n : Fin 8} {a : Octet}
    (h : duplicateAddress t n a = false) {i : Fin 8} {e : Station} (hi : i ≠ n) (he : t[i] = some e) : e.address ≠ a := by
  simp only [duplicateAddress, List.any_eq_false] at h
  have := h i (List.mem_finRange i)
  rw [he] at this
  simpa [hi] using this

theorem hasManagement_iff (t : Vector (Option Station) 8) :
    hasManagement t = true ↔ ∃ i : Fin 8, ∃ e, t[i] = some e ∧ e.mgmt = true := by
  unfold hasManagement
  rw [List.any_eq_true]
  constructor
  · rintro ⟨o, held, mgmt⟩
    obtain ⟨i, hi, rfl⟩ := List.mem_iff_getElem.mp held
    rw [Vector.length_toList] at hi
    rw [Vector.getElem_toList] at mgmt
    refine ⟨⟨i, hi⟩, ?_⟩
    simp only [Fin.getElem_fin]
    split at mgmt
    · exact ⟨_, ‹_›, mgmt⟩
    · simp at mgmt
  · rintro ⟨i, e, he, mgmt⟩
    exact ⟨t[i], by simp, by rw [he]; exact mgmt⟩

theorem AddressValue.entry_eq_some {v : Sys2Proof.AddressValue} {e : Station} (h : AddressValue.entry v = some e) :
    e.address = v.address ∧ (AddressValue.entry v).isSome = true := by
  refine ⟨?_, by rw [h]; rfl⟩
  unfold AddressValue.entry at h
  split at h
  · cases h
  · cases h; rfl

theorem State.writeAddress_keeps_reachable {s t : State} {n : Fin 8} {v : AddressValue} (hs : s.TableReachable)
    (h : s.writeAddress n v = (.ok, t)) : t.TableReachable := by
  obtain ⟨rfl, checked, management⟩ := State.writeAddress_eq_ok h
  obtain ⟨range, unique, -⟩ := hs
  have fresh : ∀ {i e f}, i ≠ n → s.addr[i] = some e → AddressValue.entry v = some f → e.address ≠ f.address :=
    fun hi he hf => by
      obtain ⟨address, held⟩ := AddressValue.entry_eq_some hf
      rw [address]
      exact duplicateAddress_eq_false (checked held).2.2 hi he
  refine ⟨fun i e he => ?range, fun i j e f he hf same => ?unique, (hasManagement_iff _).mp management⟩
  case range =>
    rw [State.setAddr_addr, State.addr_set_get] at he
    split at he
    · obtain ⟨address, held⟩ := AddressValue.entry_eq_some he
      rw [address]
      exact ⟨(checked held).1, (checked held).2.1⟩
    · exact range i e he
  case unique =>
    rw [State.setAddr_addr, State.addr_set_get] at he hf
    split at he <;> split at hf <;> rename_i hi hj
    · exact hi.symm.trans hj
    · exact absurd same.symm (fresh (Ne.symm hj) hf he)
    · exact absurd same (fresh (Ne.symm hi) he hf)
    · exact unique i j e f he hf same

theorem State.TableReachable.congr {s t : State} (h : s.TableReachable) (addr : t.addr = s.addr) : t.TableReachable := by
  unfold State.TableReachable at h ⊢
  rwa [addr]

theorem State.TableMove.keeps_reachable {s t : State} (h : s.TableMove c t) (hs : s.TableReachable) :
    t.TableReachable := by
  cases h with
  | config | owner => exact hs
  | limit v cfg => exact hs.congr (by simp)
  | address n v written => exact State.writeAddress_keeps_reachable hs written
  | channel n v may written =>
    obtain ⟨e, k, rfl, -⟩ := State.writeChannel_eq_ok written
    exact hs

theorem State.Change.keeps_reachable {s t : State} (h : s.Change c t) (hs : s.TableReachable) : t.TableReachable := by
  cases h with
  | effect h => exact hs.congr h.effectsOnly.addr
  | port h => exact hs.congr h.portOnly.addr
  | buffer h => exact hs.congr h.buffersOnly.addr
  | time h => exact hs.congr h.timeOnly.addr
  | capture h => rw [h.eq_setCap]; exact hs
  | table h => exact h.keeps_reachable hs
  | restart => exact hs

/-- R22: after reset entry 0 alone holds an Address, 0x10 plus the straps, with MGMT. -/
theorem addrReset_get (straps : BitVec 4) (i : Fin 8) : (addrReset straps)[i] = if 0 = i then
    some { address := 0x10 + straps.setWidth 8, mask := 0xFFFF, sched := true, capt := true, mgmt := true } else none := by
  exact (State.addr_set_get (Vector.replicate 8 none) 0 i _).trans (by simp)

/-- R22: the Addresses that the straps select are node addresses. -/
theorem strapAddress_inRange : ∀ straps : BitVec 4,
    (0x10 + straps.setWidth 8 : Octet) ≠ 0x00 ∧ (0x10 + straps.setWidth 8 : Octet) ≠ 0xFF := by decide

theorem released_reachable (straps : BitVec 4) (inputs : BitVec 8) : (State.released straps inputs).TableReachable := by
  have first : ∀ {i : Fin 8} {e : Station}, (State.released straps inputs).addr[i] = some e →
      0 = i ∧ e = { address := 0x10 + straps.setWidth 8, mask := 0xFFFF, sched := true, capt := true, mgmt := true } := by
    intro i e he
    have he := (addrReset_get straps i).symm.trans he
    split at he
    · exact ⟨‹_›, (Option.some.inj he).symm⟩
    · cases he
  refine ⟨fun i e he => ?_, fun i j e f he hf _ => (first he).1.symm.trans (first hf).1, 0, _, addrReset_get straps 0, rfl⟩
  rw [(first he).2]
  exact strapAddress_inRange straps

/-- Settles O12: only an ADDRESS write that is taken changes the table, and its checks keep the rules. -/
theorem stepKeepsTableReachable : Obligations.StepKeepsTableReachable := by
  intro s t table h
  exact step_keeps (P := State.TableReachable) (fun _ _ => id) (fun straps inputs _ _ _ => released_reachable straps inputs)
    State.Change.keeps_reachable table h

/-! ## CONFIG, the credit and LINE_ERRORS (R19, R41, R186) -/

/-- R186: a field that is put into CONFIG is in its range, and the others stay. -/
theorem ConfigFields.put_keeps_inRange {k l : ConfigFields} {i v : Nat} (h : k.put i v = some l) (hk : k.InRange) :
    l.InRange := by
  obtain ⟨slotExp, lead, window, catchUp, step, sync, holdover, delay, ratio, limit, hops, report, source⟩ := hk
  have address : v ≤ 0xFE → BitVec.ofNat 8 v ≠ 0xFF := by
    intro hv eq
    have : v % 256 = 255 := by simpa using congrArg BitVec.toNat eq
    omega
  unfold ConfigFields.put at h
  split at h
  all_goals
    first
      | (split_ifs at h with hv; cases h)
      | (obtain ⟨_, -, rfl⟩ := Option.map_eq_some_iff.mp h)
  · exact ⟨hv, lead, window, catchUp, step, sync, holdover, delay, ratio, limit, hops, report, source⟩
  · obtain ⟨low, high, fits⟩ := hv
    exact ⟨slotExp, ⟨low, high⟩, ⟨fits, window.2⟩, catchUp, step, sync, holdover, delay, ratio, limit, hops, report, source⟩
  · exact ⟨slotExp, lead, hv, catchUp, step, sync, holdover, delay, ratio, limit, hops, report, source⟩
  · exact ⟨slotExp, lead, window, hv, step, sync, holdover, delay, ratio, limit, hops, report, source⟩
  · exact ⟨slotExp, lead, window, catchUp, hv, sync, holdover, delay, ratio, limit, hops, report, source⟩
  · exact ⟨slotExp, lead, window, catchUp, step, hv, holdover, delay, ratio, limit, hops, report, source⟩
  · exact ⟨slotExp, lead, window, catchUp, step, sync, hv, delay, ratio, limit, hops, report, source⟩
  · exact ⟨slotExp, lead, window, catchUp, step, sync, holdover, hv, ratio, limit, hops, report, source⟩
  · exact ⟨slotExp, lead, window, catchUp, step, sync, holdover, delay, ratio, limit, hops, report, source⟩
  · exact ⟨slotExp, lead, window, catchUp, step, sync, holdover, delay, hv, limit, hops, report, source⟩
  · exact ⟨slotExp, lead, window, catchUp, step, sync, holdover, delay, ratio, hv, hops, report, source⟩
  · exact ⟨slotExp, lead, window, catchUp, step, sync, holdover, delay, ratio, limit, hv, report, source⟩
  · exact ⟨slotExp, lead, window, catchUp, step, sync, holdover, delay, ratio, limit, hops, address hv, source⟩
  · exact ⟨slotExp, lead, window, catchUp, step, sync, holdover, delay, ratio, limit, hops, report, address hv⟩
  all_goals exact ⟨slotExp, lead, window, catchUp, step, sync, holdover, delay, ratio, limit, hops, report, source⟩

/-- R186: index 10 alone is LineErrorLimit. -/
theorem ConfigFields.put_lineErrorLimit {k l : ConfigFields} {i v : Nat} (h : k.put i v = some l) (hi : i ≠ 10) :
    l.lineErrorLimit = k.lineErrorLimit := by
  unfold ConfigFields.put at h
  split at h
  all_goals
    first
      | (split_ifs at h; cases h; first | rfl | contradiction)
      | (obtain ⟨_, -, rfl⟩ := Option.map_eq_some_iff.mp h; rfl)

/-- CONFIG in range, the credit within 8, and the LINE_ERRORS condition in step with its count. -/
def State.ConfigSound (s : State) : Prop := s.cfg.InRange ∧ s.CreditFits ∧ s.LineErrorsFollow

theorem State.ConfigSound.same {s t : State} (h : s.ConfigSound) (cfg : t.cfg = s.cfg)
    (credit : t.port.credit = s.port.credit) (count : t.rx.badCount = s.rx.badCount)
    (active : t.isActive .lineErrors = s.isActive .lineErrors) : t.ConfigSound := by
  unfold State.ConfigSound State.CreditFits State.LineErrorsFollow at h ⊢
  rwa [cfg, credit, count, active]

/-- R19: after an evaluation the condition is in step, whatever it was. -/
theorem State.evalLineErrors_configSound {s : State} (cfg : s.cfg.InRange) (credit : s.port.credit ≤ 8)
    (count : s.rx.badCount ≤ 255) : s.evalLineErrors.ConfigSound := by
  refine ⟨by simpa using cfg, by simpa [State.CreditFits] using credit, by simpa using count, ?_⟩
  rw [State.evalLineErrors_isActive]
  simp

theorem State.Effect.keeps_configSound {s t : State} (h : s.Effect c t) (hs : s.ConfigSound) : t.ConfigSound :=
  hs.same h.effectsOnly.cfg (by rw [h.effectsOnly.port]) (by rw [h.effectsOnly.rx])
    (State.isActive_congr h.effectsOnly.faults_active _)

theorem State.PortMove.credit {s t : State} (h : s.PortMove t) :
    t.port.credit = s.port.credit ∨ t.port.credit = 0 ∨
      (s.port.credit < s.cfg.arbiterRatio ∧ t.port.credit = s.port.credit + 1) := by
  cases h with
  | place =>
    rcases s.placeNotice_cases with ⟨-, -, -, h⟩ | ⟨-, h⟩ <;> rw [h] <;> exact .inl rfl
  | reply =>
    rcases s.startReply_cases with ⟨-, h⟩ | ⟨d, rest, octets, doneAt, -, h⟩ <;> rw [h]
    · exact .inl rfl
    · exact .inr (.inl rfl)
  | forward credit counted =>
    rcases s.startForward_cases credit with ⟨-, h⟩ | ⟨-, octets, doneAt, h⟩ <;> rw [h]
    · exact .inl rfl
    · exact .inr counted
  | markSending =>
    unfold State.markSending
    split
    · split <;> exact .inl rfl
    all_goals exact .inl rfl
  | idle | choose | queue | queueFirst | markForward => exact .inl rfl

theorem State.PortMove.keeps_configSound {s t : State} (h : s.PortMove t) (hs : s.ConfigSound) : t.ConfigSound := by
  obtain ⟨range, credit, count, active⟩ := hs
  have p := h.portOnly
  have same : t.isActive .lineErrors = s.isActive .lineErrors := State.isActive_congr (by rw [p.faults]) _
  refine ⟨by rwa [p.cfg], ?_, by rwa [p.rx], by rwa [same, p.cfg, p.rx]⟩
  have ratio : s.cfg.arbiterRatio ≤ 8 := by
    obtain ⟨-, -, -, -, -, -, -, -, ratio, -⟩ := range
    exact ratio.2
  have : s.port.credit ≤ 8 := credit
  show t.port.credit ≤ 8
  rcases h.credit with same | zero | ⟨low, more⟩ <;> omega

theorem State.BufferMove.keeps_configSound {s t : State} (h : s.BufferMove t) (hs : s.ConfigSound) : t.ConfigSound := by
  obtain ⟨range, credit, count, active⟩ := id hs
  have discard : ∀ {u : State} (why : DiscardReason), u.cfg = s.cfg → u.port = s.port → (u.discard why).ConfigSound :=
    fun why cfg port => State.evalLineErrors_configSound (by simpa [cfg] using range) (by simpa [port, State.CreditFits] using credit)
      (Nat.min_le_left _ _)
  have handed : ((s.setRx { s.rx with state := .hunting, badCount := 0 }).evalLineErrors).ConfigSound :=
    State.evalLineErrors_configSound range credit (Nat.zero_le _)
  have disposed : ∀ {u : State}, u.ConfigSound → ∀ f mark, (u.dispose f mark).ConfigSound := by
    intro u hu f mark
    unfold State.dispose
    split
    · exact hu.same rfl rfl rfl rfl
    · exact hu.same rfl rfl rfl rfl
  cases h with
  | breakFrame why => exact discard why rfl rfl
  | dropFrame why => exact discard why rfl rfl
  | renewFrame why => exact (discard why rfl rfl).same rfl rfl rfl rfl
  | takeFrame => exact handed.same rfl rfl rfl rfl
  | passFrame a f mark => exact disposed handed f mark
  | bringFrame f mark =>
    have fewer : (s.setRx { s.rx with freeBuffers := s.rx.freeBuffers - 1 }).ConfigSound := hs.same rfl rfl rfl rfl
    exact disposed fewer f mark
  | sent =>
    unfold State.returnSentBuffer
    split
    · split <;> exact hs.same rfl rfl rfl rfl
    all_goals exact hs.same rfl rfl rfl rfl
  | wait | beginBreak | endBreak | store | err | openFrame | loseFrame => exact hs.same rfl rfl rfl rfl

theorem State.TableMove.keeps_configSound {s t : State} (h : s.TableMove c t) (hs : s.ConfigSound) : t.ConfigSound := by
  obtain ⟨range, credit, count, active⟩ := id hs
  cases h with
  | config i v cfg field put =>
    refine ⟨ConfigFields.put_keeps_inRange put range, credit, count, ?_⟩
    show s.isActive _ = true ↔ cfg.lineErrorLimit ≤ s.rx.badCount
    rw [ConfigFields.put_lineErrorLimit put field, active]
  | limit v cfg put => exact State.evalLineErrors_configSound (ConfigFields.put_keeps_inRange put range) credit count
  | address n v written => rw [(State.writeAddress_eq_ok written).1]; exact hs
  | channel n v may written =>
    obtain ⟨e, k, rfl, -⟩ := State.writeChannel_eq_ok written
    exact hs
  | owner => exact hs

theorem State.restartEffect_configSound {s : State} (range : s.cfg.InRange) : s.restartEffect.ConfigSound := by
  refine ⟨range, Nat.zero_le _, Nat.zero_le _, ?_⟩
  obtain ⟨-, -, -, -, -, -, -, -, -, limit, -⟩ := range
  have above : ¬ s.cfg.lineErrorLimit ≤ 0 := by omega
  show (BitVec.getLsbD (0 : Octet) 0 = true ↔ s.cfg.lineErrorLimit ≤ 0)
  simp [above]

theorem State.Change.keeps_configSound {s t : State} (h : s.Change c t) (hs : s.ConfigSound) : t.ConfigSound := by
  cases h with
  | effect h => exact h.keeps_configSound hs
  | port h => exact h.keeps_configSound hs
  | buffer h => exact h.keeps_configSound hs
  | time h =>
    have k := h.timeOnly
    exact hs.same k.cfg (by rw [k.port]) (by rw [k.rx]) (k.active _ (by decide))
  | capture h => rw [h.eq_setCap]; exact hs
  | table h => exact h.keeps_configSound hs
  | restart => exact State.restartEffect_configSound hs.1

theorem ConfigFields.reset_inRange : ConfigFields.reset.InRange := by
  simp [ConfigFields.InRange, ConfigFields.reset]

/-- Settles O13: every change keeps CONFIG in range, and evaluates LINE_ERRORS where the count or the limit moves. -/
theorem stepKeepsConfigInRange : Obligations.StepKeepsConfigInRange := by
  intro s t range credit follow h
  refine step_keeps (P := State.ConfigSound) (fun _ _ => id)
    (fun _ _ _ _ _ => ⟨ConfigFields.reset_inRange, Nat.zero_le _, Nat.zero_le _, ?reset⟩)
    State.Change.keeps_configSound ⟨range, credit, follow⟩ h
  case reset => simp [State.isActive, State.released, Receiver.reset, ConfigFields.reset]

/-! ## The Time Base (sections 3.1 and 3.4) -/

theorem State.SyncConsistent.congr {s t : State} (h : s.SyncConsistent) (time : t.time = s.time)
    (active : t.isActive .syncLost = s.isActive .syncLost) : t.SyncConsistent := by
  unfold State.SyncConsistent at h ⊢
  rwa [time, active]

theorem State.TimeMove.keeps_syncConsistent {s t : State} (h : s.TimeMove c t) (hs : s.SyncConsistent) :
    t.SyncConsistent := by
  obtain ⟨lost, timers⟩ := id hs
  have quiet : s.time.sync ≠ .unsynced → s.isActive .syncLost = false := fun synced =>
    Bool.eq_false_iff.mpr fun active => synced (lost active)
  cases h with
  | tick => exact hs
  | acquire m e may unsynced =>
    refine ⟨fun active => ?_, nofun, rfl, nofun, rfl⟩
    rw [State.isActive_deactivate] at active
    simp at active
  | stepOffset st m e may synced next =>
    have quiet : (s.stepTo st m e).isActive .syncLost = false := quiet synced
    refine ⟨fun active => absurd (quiet.symm.trans active) (by simp), ?_⟩
    rcases next with rfl | rfl
    · exact ⟨nofun, rfl, nofun, rfl⟩
    · exact ⟨nofun, rfl, nofun, Nat.zero_le _⟩
  | outlier locked few =>
    have sync : s.outlier.time.sync = .locked := locked
    rw [locked] at timers
    obtain ⟨-, holdover, reference, -⟩ := timers
    refine ⟨fun active => absurd ((quiet (by simp [locked])).symm.trans active) (by simp), ?_⟩
    rw [sync]
    refine ⟨nofun, holdover, reference, ?_⟩
    show s.time.outliers + 1 ≤ 2
    omega
  | lose acquiring =>
    rw [acquiring] at timers
    exact ⟨fun _ => rfl, rfl, rfl, rfl, timers.2.2.2⟩
  | hold locked =>
    rw [locked] at timers
    exact ⟨fun active => absurd ((quiet (by simp [locked])).symm.trans active) (by simp), rfl, nofun, timers.2.2.1, rfl⟩
  | expire held =>
    rw [held] at timers
    exact ⟨fun _ => rfl, rfl, rfl, rfl, timers.2.2.2⟩

theorem State.restartEffect_syncConsistent (s : State) : s.restartEffect.SyncConsistent :=
  ⟨fun _ => rfl, rfl, rfl, rfl, rfl⟩

theorem State.Change.keeps_syncConsistent {s t : State} (h : s.Change c t) (hs : s.SyncConsistent) : t.SyncConsistent := by
  cases h with
  | effect h => exact hs.congr h.effectsOnly.time (State.isActive_congr h.effectsOnly.faults_active _)
  | port h => exact hs.congr h.portOnly.time (State.isActive_congr (by rw [h.portOnly.faults]) _)
  | buffer h => exact hs.congr h.buffersOnly.time (h.buffersOnly.active _ (by decide))
  | time h => exact h.keeps_syncConsistent hs
  | capture h => rw [h.eq_setCap]; exact hs
  | table h => exact hs.congr h.tablesOnly.time (h.tablesOnly.active _ (by decide))
  | restart => exact s.restartEffect_syncConsistent

/-- Settles O14: every change of the Time Base keeps timers, reference and outlier count as its sync state has them. -/
theorem stepKeepsSyncConsistent : Obligations.StepKeepsSyncConsistent := by
  intro s t consistent h
  exact step_keeps (P := State.SyncConsistent) (fun _ _ => id) (fun _ _ _ _ _ => ⟨fun _ => rfl, rfl, rfl, rfl, rfl⟩)
    State.Change.keeps_syncConsistent consistent h

/-! ## The restart mark (R39) -/

/-- The marks of the two queues and of the item being sent. -/
def forwardMarks (q : List Forwarded) : Nat := (q.filter (·.restartMark)).length
def replyMarks (q : List ReplyDesc) : Nat := (q.filter (·.restartMark)).length
def Transmitter.marks : Transmitter → Nat
  | .sendingReply _ _ true => 1
  | .sendingReply _ _ false => 0
  | .idle => 0
  | .sendingForward _ _ => 0
  | .gap _ => 0

theorem State.marks_eq (s : State) :
    s.marks = forwardMarks s.port.forward + replyMarks s.port.replies + s.port.tx.marks := rfl

@[simp] theorem Transmitter.marks_sendingReply (octets : List Octet) (doneAt : Ticks) (m : Bool) :
    (Transmitter.sendingReply octets doneAt m).marks = m.toNat := by
  cases m <;> rfl
@[simp] theorem Transmitter.marks_idle : Transmitter.idle.marks = 0 := rfl
@[simp] theorem Transmitter.marks_gap (e : Ticks) : (Transmitter.gap e).marks = 0 := rfl
@[simp] theorem Transmitter.marks_sendingForward (octets : List Octet) (doneAt : Ticks) :
    (Transmitter.sendingForward octets doneAt).marks = 0 := rfl

@[simp] theorem replyMarks_cons (d : ReplyDesc) (q : List ReplyDesc) :
    replyMarks (d :: q) = d.restartMark.toNat + replyMarks q := by
  cases h : d.restartMark <;> simp [replyMarks, h, Nat.add_comm]

@[simp] theorem replyMarks_append (p q : List ReplyDesc) : replyMarks (p ++ q) = replyMarks p + replyMarks q := by
  simp [replyMarks]

@[simp] theorem replyMarks_nil : replyMarks [] = 0 := rfl

@[simp] theorem forwardMarks_cons (f : Forwarded) (q : List Forwarded) :
    forwardMarks (f :: q) = f.restartMark.toNat + forwardMarks q := by
  cases h : f.restartMark <;> simp [forwardMarks, h, Nat.add_comm]

@[simp] theorem forwardMarks_append (p q : List Forwarded) : forwardMarks (p ++ q) = forwardMarks p + forwardMarks q := by
  simp [forwardMarks]

@[simp] theorem forwardMarks_nil : forwardMarks [] = 0 := rfl

/-- R39: no mark is held exactly when none is counted. -/
theorem State.markHeld_eq_false_iff (s : State) : s.markHeld = false ↔ s.marks = 0 := by
  have queues : (s.port.forward.any (·.restartMark) || s.port.replies.any (·.restartMark)) = false ↔
      forwardMarks s.port.forward + replyMarks s.port.replies = 0 := by
    simp only [forwardMarks, replyMarks, Bool.or_eq_false_iff, Nat.add_eq_zero_iff, List.length_eq_zero_iff,
      List.filter_eq_nil_iff, List.any_eq_false]
  unfold State.markHeld
  rw [State.marks_eq, Bool.or_eq_false_iff, queues, Nat.add_eq_zero_iff (n := forwardMarks _ + _)]
  cases s.port.tx with
  | sendingReply octets doneAt m => cases m <;> simp
  | _ => simp

theorem forwardMarks_markLast (q : List Forwarded) : forwardMarks (markLast q) ≤ forwardMarks q + 1 := by
  induction q using markLast.induct with
  | case1 => simp [markLast]
  | case2 f => simp [markLast]
  | case3 f g rest ih => simp only [markLast, forwardMarks_cons] at ih ⊢; omega

theorem State.PortMove.marks_le {s t : State} (h : s.PortMove t) (hs : s.marks ≤ 1) : t.marks ≤ 1 := by
  have none : s.markHeld = false → s.marks = 0 := s.markHeld_eq_false_iff.mp
  rw [State.marks_eq] at hs none ⊢
  cases h with
  | place =>
    rcases s.placeNotice_cases with ⟨-, -, -, h⟩ | ⟨-, h⟩
    · rw [h]; simpa [State.queueReply, noticeDesc] using hs
    · rwa [h]
  | reply =>
    rcases s.startReply_cases with ⟨-, h⟩ | ⟨d, rest, octets, doneAt, waiting, h⟩
    · rwa [h]
    · rw [waiting, replyMarks_cons] at hs
      rw [h]
      simp only [State.setPort_port, State.assemble_forward, State.assemble_replies, Transmitter.marks_sendingReply]
      omega
  | forward credit =>
    rcases s.startForward_cases credit with ⟨-, h⟩ | ⟨-, octets, doneAt, h⟩
    · rwa [h]
    · rw [h]
      simp only [State.setPort_port, Transmitter.marks_sendingForward]
      omega
  | idle =>
    simp only [State.setPort_port, Transmitter.marks_idle]
    omega
  | choose => exact hs
  | queue d room body unmarked => simpa [State.queueReply, unmarked] using hs
  | queueFirst d room body single =>
    simp only [State.queueReplyFirst, State.setPort_port, replyMarks_cons]
    cases hm : d.restartMark with
    | true =>
      have := none (single hm)
      simp only [Bool.toNat_true]
      omega
    | false => simpa using hs
  | markForward unmarked =>
    have := none unmarked
    have := forwardMarks_markLast s.port.forward
    simp only [State.setPort_port]
    omega
  | markSending unmarked =>
    have zero := none unmarked
    unfold State.markSending
    split
    · rename_i sending
      split
      · exact hs
      · rename_i f rest waiting
        rw [waiting, forwardMarks_cons] at zero
        simp only [State.setPort_port, forwardMarks_cons, Bool.toNat_true]
        omega
    · simp only [State.setPort_port, Transmitter.marks_sendingReply, Bool.toNat_true]
      omega
    · exact hs
    · exact hs

theorem State.dispose_marks (s : State) (f : Received) (mark : Octet) : (s.dispose f mark).marks = s.marks := by
  unfold State.dispose
  split
  · rfl
  · simp [State.marks_eq]

theorem State.marks_congr {s t : State} (port : t.port = s.port) : t.marks = s.marks := by
  rw [State.marks_eq, State.marks_eq, port]

theorem State.BufferMove.marks_le {s t : State} (h : s.BufferMove t) : t.marks ≤ s.marks := by
  cases h with
  | breakFrame | dropFrame | renewFrame =>
    refine (State.marks_congr ?_).le
    simp [State.discard, State.releaseBuffer, State.beginBreak, State.setRxState, State.beginFrame]
  | takeFrame => exact (State.marks_congr (by simp [State.releaseBuffer])).le
  | passFrame a f mark =>
    rw [State.dispose_marks]
    exact (State.marks_congr (by simp)).le
  | bringFrame f mark =>
    rw [State.dispose_marks]
    exact (State.marks_congr rfl).le
  | sent =>
    have gap : s.returnSentBuffer.enterGap.marks =
        forwardMarks s.returnSentBuffer.port.forward + replyMarks s.returnSentBuffer.port.replies := rfl
    rw [gap, s.returnSentBuffer_buffersOnly.replies, State.marks_eq]
    have left : forwardMarks s.returnSentBuffer.port.forward ≤ forwardMarks s.port.forward := by
      unfold State.returnSentBuffer
      split
      · split
        · exact le_rfl
        · rename_i f rest waiting
          simp [waiting]
      all_goals exact le_rfl
    omega
  | wait | beginBreak | endBreak | store | err | openFrame | loseFrame => exact le_rfl

theorem State.Change.keeps_oneMark {s t : State} (h : s.Change c t) (hs : s.OneMark) : t.OneMark := by
  unfold State.OneMark at hs ⊢
  cases h with
  | effect h => rwa [State.marks_congr h.effectsOnly.port]
  | port h => exact h.marks_le hs
  | buffer h => exact h.marks_le.trans hs
  | time h => rwa [State.marks_congr h.timeOnly.port]
  | capture h => rw [h.eq_setCap]; exact hs
  | table h => rwa [State.marks_congr h.tablesOnly.port]
  | restart => exact Nat.zero_le _

/-- Settles O15: a mark is set only while none is held, and moves with its item. -/
theorem stepKeepsOneMark : Obligations.StepKeepsOneMark := by
  intro s t one h
  exact step_keeps (P := State.OneMark) (fun _ _ => id) (fun _ _ _ _ _ => Nat.zero_le _) State.Change.keeps_oneMark one h

end Sys2Proof.Machine
end

section
/-! Statements about every command: steps and totality, reset, the protected registers, and the channels while FROZEN. -/

namespace Sys2Proof.Machine

variable {c : Instr}

/-! ## Steps, totality and reset -/

/-- Settles O1: a step is by definition the front command on the queue's rest, or nothing. -/
theorem stepTakesFrontCommand : Obligations.StepTakesFrontCommand := by
  refine ⟨fun s k rest front => ?_, fun s idle => ?_⟩
  · rw [step, front]; rfl
  · rw [step, idle]

/-- No command stops the part. -/
theorem exec_total (k : Instr) (s : State) : ∃ t, exec k s = .next t := by
  cases k <;> exact ⟨_, rfl⟩

theorem State.Change.pending {s t : State} (h : s.Change c t) : t.pending = s.pending := by
  cases h with
  | effect h => exact h.effectsOnly.pending
  | port h => exact h.portOnly.pending
  | buffer h => exact h.buffersOnly.pending
  | time h => exact h.timeOnly.pending
  | capture h => rw [h.eq_setCap]; rfl
  | table h => exact h.tablesOnly.pending
  | restart => rfl

/-- What a command does, by cases: one of the two of reset, or a chain of changes. -/
theorem exec_cases {s t : State} (h : exec c s = .next t) :
    (∃ straps inputs held, t = { State.released straps inputs with
      resetHeld := held, choices := s.choices, pending := s.pending }) ∨ s.Reaches c t := by
  by_cases low : c = .resetNLow
  · subst low; cases h; exact .inl ⟨_, _, _, rfl⟩
  · by_cases release : ∃ straps inputs, c = .resetRelease straps inputs
    · obtain ⟨straps, inputs, rfl⟩ := release
      cases h; exact .inl ⟨_, _, _, rfl⟩
    · exact .inr (exec_reaches h low fun a b e => release ⟨a, b, e⟩)

/-- Settles O2: every meaning answers, and neither a change nor a reset moves the queue. -/
theorem everyCommandAnswersNext : Obligations.EveryCommandAnswersNext := by
  intro k s
  obtain ⟨t, h⟩ := exec_total k s
  refine ⟨t, h, ?_⟩
  rcases exec_cases h with ⟨straps, inputs, held, rfl⟩ | reached
  · rfl
  · exact reached.keeps (P := fun u => u.pending = s.pending) (fun change same => change.pending.trans same) rfl

/-- Settles O3: the state after reset, written out. -/
theorem resetReleaseValues : Obligations.ResetReleaseValues := fun _ _ _ => rfl

/-- R195: on a part held in reset, every command but the two of reset answers the state as it is. -/
theorem exec_held {s : State} (held : s.resetHeld = true) (low : c ≠ .resetNLow)
    (release : ∀ straps inputs, c ≠ .resetRelease straps inputs) : exec c s = .next s := by
  cases c with
  | resetNLow => exact absurd rfl low
  | resetRelease straps inputs => exact absurd rfl (release straps inputs)
  | _ => exact answer_held held

/-- Settles O4: every meaning but the two of reset goes through `answer`, and `answer` holds the part. -/
theorem resetHoldsThePart : Obligations.ResetHoldsThePart :=
  ⟨fun _ => ⟨_, rfl, rfl, rfl, fun _ => rfl, rfl, rfl, rfl⟩, fun _ _ held low release => exec_held held low release⟩

/-- Settles O5: each invariant of the state after reset, read off its fields. -/
theorem resetMeetsInvariants : Obligations.ResetMeetsInvariants := by
  intro straps inputs
  refine ⟨?pool, fun _ => Nat.zero_le _, fun _ => rfl, nofun, ⟨rfl, fun _ => rfl⟩, trivial, ⟨trivial, nofun⟩,
    ⟨Nat.zero_le _, rfl⟩, ⟨Nat.zero_le _, nofun⟩, ⟨Nat.zero_le _, nofun⟩, ?pulses, fun _ => ?still,
    released_reachable straps inputs, ConfigFields.reset_inRange, Nat.zero_le _, ⟨Nat.zero_le _, ?errors⟩,
    ⟨fun _ => rfl, rfl, rfl, rfl, rfl⟩, Nat.zero_le _⟩
  case pool => simp [State.PoolWhole, State.released, Scheduler.reset]
  case errors => simp [State.isActive, State.released, Receiver.reset, ConfigFields.reset]
  case pulses => intro n; simp [State.released, Outputs.reset, ChannelState.reset]
  case still => intro n; simp [State.released, Outputs.reset, ChannelState.reset]

/-! ## Protected registers (R45, R46, R176) -/

theorem State.TimeMove.localCount {s t : State} (h : s.TimeMove c t) (other : c ≠ .tick) :
    t.time.localCount = s.time.localCount := by
  cases h with
  | tick may => exact absurd may other
  | _ => rfl

theorem State.TimeMove.offset {s t : State} (h : s.TimeMove c t) (other : movesOffset c = false) :
    t.time.offset = s.time.offset := by
  cases h with
  | acquire m e may => simp [other] at may
  | stepOffset st m e may => simp [other] at may
  | _ => rfl

theorem State.TableMove.owner_eq {s t : State} (h : s.TableMove c t) (other : movesOwner c = false) :
    t.owner = s.owner := by
  cases h with
  | config => rfl
  | limit v cfg => simp
  | address n v written => rw [(State.writeAddress_eq_ok written).1]; rfl
  | channel n v may written =>
    obtain ⟨e, k, rfl, -⟩ := State.writeChannel_eq_ok written
    rfl
  | owner v may => simp [other] at may

theorem State.Change.localCount {s t : State} (h : s.Change c t) (other : c ≠ .tick) :
    t.time.localCount = s.time.localCount := by
  cases h with
  | effect h => rw [h.effectsOnly.time]
  | port h => rw [h.portOnly.time]
  | buffer h => rw [h.buffersOnly.time]
  | time h => exact h.localCount other
  | capture h => rw [h.eq_setCap]; rfl
  | table h => rw [h.tablesOnly.time]
  | restart => rfl

theorem State.Change.offset {s t : State} (h : s.Change c t) (other : movesOffset c = false) :
    t.time.offset = s.time.offset := by
  cases h with
  | effect h => rw [h.effectsOnly.time]
  | port h => rw [h.portOnly.time]
  | buffer h => rw [h.buffersOnly.time]
  | time h => exact h.offset other
  | capture h => rw [h.eq_setCap]; rfl
  | table h => rw [h.tablesOnly.time]
  | restart => rfl

theorem State.Change.owner_eq {s t : State} (h : s.Change c t) (other : movesOwner c = false) : t.owner = s.owner := by
  cases h with
  | effect h => exact h.effectsOnly.owner
  | port h => exact h.portOnly.owner
  | buffer h => exact h.buffersOnly.owner
  | time h => exact h.timeOnly.owner
  | capture h => rw [h.eq_setCap]; rfl
  | table h => exact h.owner_eq other
  | restart => exact s.restartEffect_owner

theorem movesOffset_eq_false (fe : c ≠ .fe) (sync : ∀ src arrival payload, c ≠ .sync src arrival payload) :
    movesOffset c = false := by
  cases c with
  | fe => exact absurd rfl fe
  | sync src arrival payload => exact absurd rfl (sync src arrival payload)
  | _ => rfl

theorem movesOwner_eq_false (fe : c ≠ .fe) (claim : ∀ h, c ≠ .claim h) (release : ∀ h, c ≠ .release h) :
    movesOwner c = false := by
  cases c with
  | fe => exact absurd rfl fe
  | claim h => exact absurd rfl (claim h)
  | release h => exact absurd rfl (release h)
  | _ => rfl

/-- Settles O16: each of the three registers has one kind of change that moves it, and few commands may make it. -/
theorem protectedRegisters : Obligations.ProtectedRegisters := by
  intro k s t h low release
  have reached := exec_reaches h low release
  refine ⟨fun other => ?_, fun fe sync => ?_, fun fe claim rel => ?_⟩
  · exact reached.keeps (P := fun u => u.time.localCount = s.time.localCount)
      (fun change same => (change.localCount other).trans same) rfl
  · exact reached.keeps (P := fun u => u.time.offset = s.time.offset)
      (fun change same => (change.offset (movesOffset_eq_false fe sync)).trans same) rfl
  · exact reached.keeps (P := fun u => u.owner = s.owner)
      (fun change same => (change.owner_eq (movesOwner_eq_false fe claim rel)).trans same) rfl

/-! ## FROZEN (R107, R112) -/

/-- The part is FROZEN with no pulse in progress, and its channels are these. -/
def State.Still (chans : Vector ChannelState 16) (s : State) : Prop :=
  s.sched.state = .frozen ∧ s.out.chans = chans ∧ ∀ n : Fin 16, chans[n].pulseEnd = none

theorem State.Still.congr {chans : Vector ChannelState 16} {s t : State} (h : s.Still chans)
    (state : t.sched.state = s.sched.state) (out : t.out.chans = s.out.chans) : t.Still chans := by
  unfold State.Still at h ⊢
  rwa [state, out]

/-- R107: a FREEZE response changes nothing in FROZEN. -/
theorem State.Still.mayFreeze {chans : Vector ChannelState 16} {s t : State} (h : s.Still chans) (f : s.MayFreeze t) :
    t.Still chans := by
  rw [State.MayFreeze, State.freezeResponse_frozen h.1, or_self] at f
  exact h.congr (by rw [f.1]) (by rw [f.2])

theorem State.Effect.keeps_still {chans : Vector ChannelState 16} {s t : State} (h : s.Effect c t)
    (hs : s.Still chans) (drive : drives c = false) (commands : commandsScheduler c = false) : t.Still chans := by
  cases h with
  | link live sound linked =>
    obtain ⟨id, rest, -, -, rfl⟩ := State.linkRecord_eq_some linked
    exact hs
  | relink found sound moved => rw [(State.relink_eq_some moved).2]; exact hs
  | act r running => exact absurd (hs.1.symm.trans running) (by simp)
  | offer b => exact hs.mayFreeze (s.offerNotice_raises b).freeze
  | raise k time => exact hs.mayFreeze (s.raise_raises k time).freeze
  | run may => simp [commands] at may
  | halt may => simp [commands] at may
  | safe may => simp [drive] at may
  | endPulse n due =>
    have stopped : s.out.chans[n].pulseEnd = none := by rw [hs.2.1]; exact hs.2.2 n
    simp only [State.timerDue, stopped] at due
    exact absurd due (by decide)
  | free | clear | slot | acknowledge => exact hs

theorem State.Change.keeps_still {chans : Vector ChannelState 16} {s t : State} (h : s.Change c t)
    (hs : s.Still chans) (drive : drives c = false) (commands : commandsScheduler c = false) : t.Still chans := by
  cases h with
  | effect h => exact h.keeps_still hs drive commands
  | port h => exact hs.congr (by rw [h.portOnly.sched]) (by rw [h.portOnly.out])
  | buffer h => exact hs.mayFreeze h.buffersOnly.raises.freeze
  | time h => exact hs.congr (by rw [h.timeOnly.sched]) (by rw [h.timeOnly.out])
  | capture h => rw [h.eq_setCap]; exact hs
  | table h =>
    cases h with
    | config | owner => exact hs
    | limit v cfg => exact State.Still.mayFreeze (s := s.setCfg cfg) hs (State.evalLineErrors_raises _).freeze
    | address n v written => rw [(State.writeAddress_eq_ok written).1]; exact hs
    | channel n v may => simp [drive] at may
  | restart may => simp [drive] at may

/-- START, RESUME and HALT leave the channels alone. -/
theorem State.command_out (s : State) (src : Octet) {k : Command} (h : k ≠ .safe) : (s.command src k).2.out = s.out := by
  cases k with
  | safe => exact absurd rfl h
  | start => show (s.run _).2.out = _; unfold State.run; split <;> rfl
  | resume => show (s.run _).2.out = _; unfold State.run; split <;> rfl
  | halt => show s.haltNow.out = _; unfold State.haltNow; split <;> rfl
  | clearWheel => show s.clearWheelNow.out = _; unfold State.clearWheelNow; split <;> rfl
  | claim => show (s.claimFor src).2.out = _; unfold State.claimFor; split_ifs <;> rfl
  | release => show (s.releaseBy src).2.out = _; unfold State.releaseBy; split <;> rfl
  | restart => rfl

theorem State.control_out (s : State) (h : ReqHeader) {k : Command} (safe : k ≠ .safe) (restart : k ≠ .restart) :
    (s.control h k).out = s.out := by
  unfold State.control
  split
  · unfold State.broadcast
    split
    · split
      · exact absurd rfl restart
      · exact s.command_out _ safe
    · rfl
  · rcases s.request_cases h s.lineTime (.control k) with inert | ⟨e, q, -, taken, performed⟩
    · rw [inert]
    · obtain ⟨-, same, -⟩ := State.verdict_eq_taken taken
      cases same
      rw [performed, State.settle_out, State.perform_control restart]
      exact s.command_out _ safe

/-- A CONTROL row other than SAFE and RESTART leaves the channels alone. -/
theorem answer_control_out {s t : State} {h : ReqHeader} {k : Command} (safe : k ≠ .safe) (restart : k ≠ .restart)
    (answered : answer s (s.control h k) = .next t) : t.out = s.out := by
  rcases answer_cases answered with ⟨-, rfl⟩ | ⟨-, rfl⟩
  · rfl
  · exact s.control_out h safe restart

/-- Settles O17: in FROZEN no change but those excepted touches a channel, and START, RESUME and HALT end with it. -/
theorem frozenHoldsLevels : Obligations.FrozenHoldsLevels := by
  intro k s t still frozen h low release fe feSent effect safe restart channel write
  cases hc : commandsScheduler k with
  | true =>
    cases k with
    | start h' => rw [answer_control_out (k := .start) (by decide) (by decide) h]
    | resume h' => rw [answer_control_out (k := .resume) (by decide) (by decide) h]
    | halt h' => rw [answer_control_out (k := .halt) (by decide) (by decide) h]
    | fe => exact absurd rfl fe
    | _ => simp [commandsScheduler] at hc
  | false =>
    have drive : drives k = false := by
      cases k with
      | fe => exact absurd rfl fe
      | feSent => exact absurd rfl feSent
      | restartEffect => exact absurd rfl effect
      | restart h' hops => exact absurd rfl (restart h' hops)
      | safe h' => exact absurd rfl (safe h')
      | writeChannel h' n v => exact absurd rfl (channel h' n v)
      | write h' o i v => exact absurd rfl (write h' o i v)
      | _ => rfl
    have reached := exec_reaches h low release
    exact (reached.keeps (P := State.Still s.out.chans) (fun change hs => change.keeps_still hs drive hc)
      ⟨frozen, rfl, still frozen⟩).2.1

end Sys2Proof.Machine
end

section
/-! Statements about the Line Receiver (chapter 1): settling, breaks, characters, the end of a frame, the check register. -/

namespace Sys2Proof.Machine

/-! ## Instants -/

/-- The sense in which an instant is reached (log 21). -/
theorem reached_iff (s : State) (instant : Ticks) : reached s.time.localCount instant = true ↔ s.At instant := by
  rw [reached, Bool.not_eq_true', BitVec.msb_eq_false_iff_two_mul_lt, State.At]
  omega

theorem reached_eq_false_iff (s : State) (instant : Ticks) :
    reached s.time.localCount instant = false ↔ ¬ s.At instant := by
  rw [← reached_iff, Bool.not_eq_true]

/-! ## Settling and breaks -/

/-- Settles O19: each row by the receiver's state and by whether its instant is reached. -/
theorem receiverSettles : Obligations.ReceiverSettles := by
  intro s up
  refine ⟨fun since settling quiet => ⟨fun now => ?_, fun early => ?_, fun low => ?_⟩, fun idle => ⟨?_, fun low => ?_⟩,
    fun broken => ?_, fun quiet => ?_⟩
  · have due : s.settled since = true := (reached_iff s _).mpr now
    simp [exec, execSettlingEnd, settling, quiet, due, answer_up up, State.setRxState, State.setRx]
  · have due : s.settled since = false := (reached_eq_false_iff s _).mpr early
    simp [exec, execSettlingEnd, settling, due]
  · simp [exec, execSettlingWaitRestart, settling, quiet, answer_up up, State.setRxState, State.setRx]
  · unfold exec execSettlingEnd
    cases settling : s.rx.state with
    | settling since =>
      obtain broken | other := idle
      · simp [broken]
      · exact absurd settling (other since)
    | _ => simp
  · unfold exec execSettlingWaitRestart
    cases settling : s.rx.state with
    | settling since =>
      obtain broken | other := idle
      · simp [broken]
      · exact absurd settling (other since)
    | _ => simp
  · simp [exec, execBreakEnd, broken, answer_up up, State.setRx]
  · simp [exec, execBreakEnd, quiet]

/-- Settles O20: FS by the receiver's state, and outside a frame by the free buffers. -/
theorem fsBeginsFrame : Obligations.FsBeginsFrame := by
  intro s up
  dsimp only
  refine ⟨fun quiet => ⟨fun outside => ?_, fun a assembling => ?_, fun a why errored => ?_⟩, fun inert => ?_⟩
  · have opens : exec .fs s = .next s.openFrame.settle := by
      obtain hunting | skipping := outside
      · simp [exec, execFs, quiet, hunting, answer_up up]
      · simp [exec, execFs, quiet, skipping, answer_up up]
    refine ⟨fun free => ?_, fun none => ?_⟩
    · rw [opens, State.openFrame, if_neg (by omega)]
      rfl
    · rw [opens, State.openFrame, if_pos none]
      rfl
  · simp [exec, execFs, quiet, assembling, answer_up up, State.discard, State.beginFrame, State.setRxState, State.setRx,
      State.lineTime]
  · simp [exec, execFs, quiet, errored, answer_up up, State.discard, State.beginFrame, State.setRxState, State.setRx,
      State.lineTime]
  · obtain broken | ⟨since, settling⟩ := inert
    · simp [exec, execFs, broken]
    · simp [exec, execFs, settling]

/-- Settles O22: BREAK by the receiver's state. -/
theorem breakEndsFrame : Obligations.BreakEndsFrame := by
  intro s up
  dsimp only
  refine ⟨fun quiet => ⟨fun outside => ?_, fun a assembling => ?_, fun a why errored => ?_⟩, fun inert => ?_⟩
  · obtain hunting | skipping := outside
    · simp [exec, execLineBreak, quiet, hunting, answer_up up, State.beginBreak, State.setRx]
    · simp [exec, execLineBreak, quiet, skipping, answer_up up, State.beginBreak, State.setRx]
  · simp [exec, execLineBreak, quiet, assembling, answer_up up, State.discard, State.releaseBuffer, State.beginBreak,
      State.setRx]
  · simp [exec, execLineBreak, quiet, errored, answer_up up, State.discard, State.releaseBuffer, State.beginBreak,
      State.setRx]
  · obtain broken | ⟨since, settling⟩ := inert
    · simp [exec, execLineBreak, broken]
    · simp [exec, execLineBreak, settling]

/-! ## Characters -/

/-- Even or odd: the exclusive or of a list of bits is the parity of how many are ones. -/
theorem foldl_xor_eq_parity {α : Type} (f : α → Bool) (l : List α) (b : Bool) :
    l.foldl (fun b i => b != f i) b = decide ((b.toNat + (l.map f).count true) % 2 = 1) := by
  induction l generalizing b with
  | nil => cases b <;> rfl
  | cons x l ih =>
    rw [List.foldl_cons, ih, List.map_cons, List.count_cons]
    cases b <;> cases f x <;> simp <;> omega

/-- R2: the parity is right when the ones of positions 2 to 11 are even in number; the stop bit is not among them. -/
theorem charParityRight_iff (c : RawChar) :
    charParityRight c = true ↔ ((charBits c).count true - (if c.stop then 1 else 0)) % 2 = 0 := by
  rw [charParityRight, Bool.not_eq_true', foldl_xor_eq_parity, decide_eq_false_iff_not]
  simp only [charBits, List.cons_append, List.count_cons, List.count_append]
  cases c.kind <;> cases c.parity <;> cases c.stop <;> simp <;> omega

theorem charClassify_framing {c : RawChar} (stop : c.stop = false) : charClassify c = .error .framing := by
  simp [charClassify, stop]

theorem charClassify_parity {c : RawChar} (stop : c.stop = true) (odd : charParityRight c = false) :
    charClassify c = .error .parity := by
  simp [charClassify, stop, odd]

theorem charClassify_good {c : RawChar} (stop : c.stop = true) (even : charParityRight c = true) :
    charClassify c = if c.kind = false then .data c.octet else if c.octet = 0xA5 then .fs
      else if c.octet = 0x5A then .fe else .error .strayControl := by
  simp [charClassify, stop, even]

theorem exec_errorCharacter {s : State} {c : RawChar} {why : DiscardReason} {a : Assembly} (up : s.resetHeld = false)
    (classed : charClassify c = .error why) (assembling : s.rx.state = .assembling a) :
    exec (.errorCharacter c) s = .next { s with rx := { s.rx with state := .errored a why } } := by
  simp [exec, execErrorCharacter, classed, assembling, answer_up up, State.setRxState, State.setRx]

theorem exec_errorCharacter_good {s : State} {c : RawChar} (good : ∀ why, charClassify c ≠ .error why) :
    exec (.errorCharacter c) s = .next s := by
  unfold exec execErrorCharacter
  cases classed : charClassify c with
  | error why => exact absurd classed (good why)
  | _ => simp [classed]

theorem exec_errorCharacter_outside {s : State} (c : RawChar) (outside : ∀ a, s.rx.state ≠ .assembling a) :
    exec (.errorCharacter c) s = .next s := by
  unfold exec execErrorCharacter
  cases classed : charClassify c with
  | error why =>
    cases state : s.rx.state with
    | assembling a => exact absurd state (outside a)
    | _ => simp [classed]
  | _ => simp [classed]

/-- Settles O21: a data character by the octets stored, an error character by its class. -/
theorem charactersOfAFrame : Obligations.CharactersOfAFrame := by
  intro s up
  refine ⟨fun a assembling => ⟨fun o room => ?_, fun o full => ?_, fun c => ?_⟩, fun outside => ⟨fun o => ?_, ?_⟩⟩
  · have stored : a.octets.length < Config.bufferOctets := room
    simp [exec, execDataCharacter, assembling, stored, answer_up up, State.setRxState, State.setRx]
  · have lost : ¬ a.octets.length < Config.bufferOctets := Nat.not_lt.mpr full
    simp [exec, execDataCharacter, assembling, lost, answer_up up, State.setRxState, State.setRx]
  · refine ⟨fun stop => ?_, fun stop odd => ?_, fun stop even control fs fe => ?_, fun stop even known => ?_⟩
    · exact exec_errorCharacter up (charClassify_framing stop) assembling
    · refine exec_errorCharacter up (charClassify_parity stop ?_) assembling
      rw [Bool.eq_false_iff, Ne, charParityRight_iff]
      omega
    · refine exec_errorCharacter up ?_ assembling
      rw [charClassify_good stop ((charParityRight_iff c).mpr even), if_neg (by simp [control]), if_neg fs, if_neg fe]
    · refine exec_errorCharacter_good fun why => ?_
      rw [charClassify_good stop ((charParityRight_iff c).mpr even)]
      obtain data | fs | fe := known
      · simp [data]
      · rw [fs]; split <;> simp
      · rw [fe]; split <;> simp
  · unfold exec execDataCharacter
    cases state : s.rx.state with
    | assembling a => exact absurd state (outside a)
    | _ => simp
  · exact fun c => exec_errorCharacter_outside c outside

/-! ## The check register (R15, R197) -/

/-- The lowest bit of the register tells the bit taken apart: the polynomial is odd. -/
theorem crcBit_getLsbD_zero (r : BitVec 16) (b : Bool) : (crcBit r b).getLsbD 0 = (r.msb != b) := by
  unfold crcBit
  split <;> simp_all

/-- A step of the register loses nothing of it. -/
theorem crcBit_injective {r q : BitVec 16} {b : Bool} (h : crcBit r b = crcBit q b) : r = q := by
  have top : r.msb = q.msb := by
    have low := congrArg (fun v => v.getLsbD 0) h
    simp only [crcBit_getLsbD_zero] at low
    revert low
    cases r.msb <;> cases q.msb <;> cases b <;> decide
  have shifted : r <<< 1 = q <<< 1 := by
    unfold crcBit at h
    rw [top] at h
    split at h
    · exact (BitVec.xor_left_inj _).mp h
    · exact h
  have shiftedNat := congrArg BitVec.toNat shifted
  simp only [BitVec.msb_eq_decide, BitVec.toNat_shiftLeft, Nat.shiftLeft_eq, decide_eq_decide] at top shiftedNat
  exact BitVec.eq_of_toNat_eq (by omega)

theorem crcOctet_injective {r q : BitVec 16} {o : Octet} (h : crcOctet r o = crcOctet q o) : r = q := by
  unfold crcOctet at h
  revert h
  induction List.range 8 generalizing r q with
  | nil => exact id
  | cons i l ih => exact fun h => crcBit_injective (ih h)

theorem foldl_crcOctet_injective {l : List Octet} {r q : BitVec 16} (h : l.foldl crcOctet r = l.foldl crcOctet q) :
    r = q := by
  induction l generalizing r q with
  | nil => exact h
  | cons o l ih => exact crcOctet_injective (ih h)

/-- What the polynomial adds to the shifted register (R15). -/
def crcFeedback (differ : Bool) : BitVec 16 := if differ then 0x1021 else 0

theorem crcBit_eq (r : BitVec 16) (b : Bool) : crcBit r b = r <<< 1 ^^^ crcFeedback (r.msb != b) := by
  unfold crcBit crcFeedback
  split <;> simp

theorem crcFeedback_xor (x y : Bool) : crcFeedback (x ^^ y) = crcFeedback x ^^^ crcFeedback y := by
  cases x <;> cases y <;> decide

/-- A step is linear over exclusive or. -/
theorem crcBit_xor (r q : BitVec 16) (b c : Bool) : crcBit (r ^^^ q) (b != c) = crcBit r b ^^^ crcBit q c := by
  have fed : ((r.msb ^^ q.msb) != (b != c)) = ((r.msb != b) ^^ (q.msb != c)) := by
    cases r.msb <;> cases q.msb <;> cases b <;> cases c <;> rfl
  rw [crcBit_eq, crcBit_eq, crcBit_eq, BitVec.msb_xor, BitVec.shiftLeft_xor_distrib, fed, crcFeedback_xor]
  ac_rfl

theorem crcOctet_xor (r q : BitVec 16) (x y : Octet) : crcOctet (r ^^^ q) (x ^^^ y) = crcOctet r x ^^^ crcOctet q y := by
  unfold crcOctet
  induction List.range 8 generalizing r q with
  | nil => rfl
  | cons i l ih => simp only [List.foldl_cons]; rw [← ih, ← crcBit_xor, BitVec.getLsbD_xor]

/-- While the bits taken are those that leave the register, it only shifts. -/
theorem foldl_crcBit_shift (r : BitVec 16) (f : Nat → Bool) (n : Nat) (h : ∀ i < n, r.getMsbD i = f i) :
    (List.range n).foldl (fun q i => crcBit q (f i)) r = r <<< n := by
  induction n with
  | zero => simp
  | succ n ih =>
    have out : (r <<< n).msb = f n := by
      rw [BitVec.msb_eq_getMsbD_zero, BitVec.getMsbD_shiftLeft, Nat.zero_add, h n (Nat.lt_succ_self n)]
    rw [List.range_succ, List.foldl_append, ih fun i hi => h i (Nat.lt_succ_of_lt hi)]
    simp [crcBit, out, BitVec.shiftLeft_add]

theorem crcOctet_shift {r : BitVec 16} {o : Octet} (h : ∀ i < 8, r.getMsbD i = o.getMsbD i) : crcOctet r o = r <<< 8 := by
  refine foldl_crcBit_shift r _ 8 fun i hi => ?_
  rw [h i hi, BitVec.getMsbD_eq_getLsbD]
  simp [hi]

theorem getMsbD_high (hi lo : Octet) {i : Nat} (h : i < 8) : (hi ++ lo).getMsbD i = hi.getMsbD i :=
  BitVec.getMsbD_append.trans (if_neg (Nat.not_le.mpr h))

theorem getMsbD_low (hi lo : Octet) (i : Nat) : (hi ++ lo).getMsbD (i + 8) = lo.getMsbD i :=
  BitVec.getMsbD_append.trans (by rw [if_pos (Nat.le_add_left 8 i), Nat.add_sub_cancel])

theorem crcOctet_own (hi lo : Octet) : crcOctet (crcOctet (hi ++ lo) hi) lo = 0 := by
  have first : crcOctet (hi ++ lo) hi = (hi ++ lo) <<< 8 :=
    crcOctet_shift fun i h => getMsbD_high hi lo h
  rw [first, crcOctet_shift fun i _ => (BitVec.getMsbD_shiftLeft ..).trans (getMsbD_low hi lo i), ← BitVec.shiftLeft_add]
  exact BitVec.shiftLeft_eq_zero (by decide)

/-- A number with one octet more at its low end. -/
theorem toNat_append_octet {n : Nat} (x : BitVec n) (o : Octet) : (x ++ o).toNat = x.toNat * 256 + o.toNat := by
  rw [BitVec.toNat_append, ← Nat.shiftLeft_add_eq_or_of_lt o.isLt, Nat.shiftLeft_eq]

theorem crcOctet_octet_injective {r : BitVec 16} {x y : Octet} (h : crcOctet r x = crcOctet r y) : x = y := by
  have zero : crcOctet 0 (x ^^^ y) = 0 := by
    have := crcOctet_xor r r x y
    rwa [h, BitVec.xor_self, BitVec.xor_self] at this
  have own : crcOctet ((x ^^^ y) ++ (0 : Octet)) (x ^^^ y) = 0 := by
    rw [crcOctet_shift fun i hi => getMsbD_high _ _ hi]
    refine BitVec.eq_of_toNat_eq ?_
    rw [BitVec.toNat_shiftLeft, toNat_append_octet, Nat.shiftLeft_eq]
    simp [Nat.mul_assoc]
  have empty := congrArg BitVec.toNat (crcOctet_injective (zero.trans own.symm))
  rw [toNat_append_octet] at empty
  refine BitVec.xor_eq_zero_iff.mp (BitVec.eq_of_toNat_eq ?_)
  simpa using empty

/-- Settles O25: the register starts over at its own octets, and neither a register nor an octet is lost by a step. -/
theorem crcDetectsOneOctet : Obligations.CrcDetectsOneOctet := by
  refine ⟨rfl, by decide, by decide +kernel, fun octets hi lo => ⟨fun zero => ?_, fun same => ?_⟩,
    fun before after x y differ same => ?_⟩
  · simp only [crcOf, List.foldl_append, List.foldl_cons, List.foldl_nil] at zero
    exact crcOctet_injective (crcOctet_injective (zero.trans (crcOctet_own hi lo).symm))
  · rw [crcOf] at same
    simp only [crcOf, List.foldl_append, List.foldl_cons, List.foldl_nil, same]
    exact crcOctet_own hi lo
  · simp only [crcOf, List.foldl_append, List.foldl_cons] at same
    exact differ (crcOctet_octet_injective (foldl_crcOctet_injective same))

/-! ## The end of a frame (R12, R17) -/

theorem octetsOf_two_eq_iff (v : BitVec 16) (hi lo : Octet) : octetsOf 2 v = [hi, lo] ↔ v = hi ++ lo := by
  have pair := toNat_append_octet hi lo
  have octets : octetsOf 2 v = [(v >>> 8).setWidth 8, (v >>> 0).setWidth 8] := rfl
  rw [octets, List.cons.injEq, List.cons.injEq, ← BitVec.toNat_inj, ← BitVec.toNat_inj, ← BitVec.toNat_inj, pair]
  simp only [BitVec.toNat_setWidth, BitVec.toNat_ushiftRight, Nat.shiftRight_eq_div_pow, and_true]
  have := v.isLt
  have := hi.isLt
  have := lo.isLt
  constructor <;> omega

/-- The last two octets of a sequence of at least two. -/
theorem drop_length_sub_two {l : List Octet} (h : 2 ≤ l.length) :
    l.drop (l.length - 2) = [l.getD (l.length - 2) 0, l.getD (l.length - 1) 0] := by
  refine List.ext_getElem (by simp; omega) fun i hi _ => ?_
  simp only [List.length_drop] at hi
  have two : i = 0 ∨ i = 1 := by omega
  obtain rfl | rfl := two
  · simp [List.getElem?_eq_getElem (show l.length - 2 < l.length by omega)]
  · have last : l.length - 2 + 1 = l.length - 1 := by omega
    simp [List.getElem?_eq_getElem (show l.length - 1 < l.length by omega), last]

theorem crcPasses_iff {l : List Octet} (h : 2 ≤ l.length) : crcPasses l = true ↔
    crcOf (l.take (l.length - 2)) = l.getD (l.length - 2) 0 ++ l.getD (l.length - 1) 0 := by
  rw [crcPasses, beq_iff_eq, drop_length_sub_two h, octetsOf_two_eq_iff]

theorem exec_fe_bad {s : State} {a : Assembly} {why : DiscardReason} (up : s.resetHeld = false)
    (assembling : s.rx.state = .assembling a) (bad : frameFault a.octets = some why) :
    exec .fe s = .next ((s.setRxState .hunting).releaseBuffer.discard why).settle := by
  simp [exec, execFe, assembling, answer_up up, State.endFrame, bad]

/-- Settles O23: FE in ASSEMBLING by the first check that fails, and elsewhere by the receiver's state. -/
theorem feDiscardsBadFrame : Obligations.FeDiscardsBadFrame := by
  intro s up
  refine ⟨fun a assembling => ⟨fun short => ?_, fun long length => ?_, fun long length crc => ?_⟩,
    fun a why errored => ?_, fun skipping => ?_, fun inert => ?_⟩
  · exact exec_fe_bad up assembling (if_pos short)
  · refine exec_fe_bad up assembling ?_
    rw [frameFault, if_neg (Nat.not_lt.mpr long), if_pos length]
  · refine exec_fe_bad up assembling ?_
    have fails : crcPasses a.octets = false := by
      rw [Bool.eq_false_iff, Ne, crcPasses_iff (Nat.le_trans (by decide) long)]
      exact crc
    rw [frameFault, if_neg (Nat.not_lt.mpr long), if_neg (not_not.mpr length), fails]
    rfl
  · simp [exec, execFe, errored, answer_up up, State.discard, State.releaseBuffer, State.setRxState, State.setRx]
  · simp [exec, execFe, skipping, answer_up up, State.setRxState, State.setRx]
  · obtain hunting | ⟨since, settling⟩ := inert
    · simp [exec, execFe, hunting]
    · simp [exec, execFe, settling]

theorem length_octetsOf {w : Nat} (n : Nat) (v : BitVec w) : (octetsOf n v).length = n := by
  simp [octetsOf]

theorem Frame.length_octets (f : Frame) : f.octets.length = 7 + f.payload.length := by
  simp [Frame.octets]
  omega

theorem Frame.length_withCrc (f : Frame) : f.withCrc.length = f.payload.length + 9 := by
  rw [Frame.withCrc, List.length_append, f.length_octets, length_octetsOf]
  omega

/-- R12: the octets a transmitter sends pass the three checks. -/
theorem Frame.frameFault_withCrc {f : Frame} (fits : f.payload.length ≤ 240) : frameFault f.withCrc = none := by
  have length : (f.withCrc.getD 6 0).toNat = f.payload.length := by
    show (BitVec.ofNat 8 f.payload.length).toNat = _
    rw [BitVec.toNat_ofNat]
    omega
  have header : f.withCrc.length - 2 = f.octets.length := by
    rw [f.length_withCrc, f.length_octets]
    omega
  have passes : crcPasses f.withCrc = true := by
    rw [crcPasses, header, Frame.withCrc, List.take_left', List.drop_left', beq_self_eq_true] <;> rfl
  rw [frameFault, length, passes, f.length_withCrc]
  simp

/-- The octets a transmitter sends spell the frame. -/
theorem Frame.frameOf_withCrc (f : Frame) : frameOf f.withCrc = some f := by
  have payload : ∀ crc : List Octet, crc.length = 2 →
      (f.payload ++ crc).take ((f.payload ++ crc).length - 2) = f.payload := fun crc two => by
    rw [List.length_append, two, Nat.add_sub_cancel, List.take_left']
    rfl
  have spelt : f.withCrc = f.dest :: f.src :: f.kind :: f.seq :: f.hops :: f.mark ::
      BitVec.ofNat 8 f.payload.length :: (f.payload ++ octetsOf 2 (crcOf f.octets)) := rfl
  rw [spelt, frameOf, payload _ (length_octetsOf 2 _)]

/-- R40: a character that a transmitter forms has stop bit 1 and even parity. -/
theorem charClassify_charOfOctet (control : Bool) (o : Octet) : charClassify (charOfOctet control o) =
    if control = false then .data o else if o = 0xA5 then .fs else if o = 0x5A then .fe else .error .strayControl := by
  refine charClassify_good rfl ?_
  rw [charParityRight, foldl_xor_eq_parity]
  simp only [charOfOctet, foldl_xor_eq_parity]
  generalize ((List.range 8).map o.getLsbD).count true = ones
  obtain even | odd := Nat.mod_two_eq_zero_or_one ones
  · cases control <;> simp [even, Nat.add_mod]
  · cases control <;> simp [odd, Nat.add_mod]

/-- Settles O24: the octets pass the checks and spell the frame; the characters are read by their kind and octet. -/
theorem sentFrameIsReceivedAsItself : Obligations.SentFrameIsReceivedAsItself := by
  refine ⟨fun s f a up fits assembling sent => ?_, fun o => charClassify_charOfOctet false o,
    charClassify_charOfOctet true 0xA5, charClassify_charOfOctet true 0x5A⟩
  have good : frameFault a.octets = none := sent ▸ Frame.frameFault_withCrc fits
  have spelt : frameOf a.octets = some f := sent ▸ f.frameOf_withCrc
  simp [exec, execFe, assembling, answer_up up, State.endFrame, good, spelt, State.handOver, State.setRx]

end Sys2Proof.Machine
end

section
/-! Statements about the Classifier (chapter 2): the tests of step 6, the forms of requests, what becomes of a frame. -/

namespace Sys2Proof.Machine

/-! ## Step 6 (R29 to R33), test by test -/

section Verdict

variable {s : State} {e : Station} {src kind : Octet} {parsed : Option Request}

theorem State.verdict_passed {mark : Octet} (h : mark ≠ markClear ∨ 0x80 ≤ kind.toNat) :
    s.verdict e src kind mark parsed = .carried := by
  unfold State.verdict
  by_cases marked : mark ≠ markClear
  · rw [if_pos marked]
  · rw [if_neg marked, if_pos (h.resolve_left marked)]

theorem State.verdict_unknown (below : kind.toNat < 0x80) (unknown : requestKind kind = false) :
    s.verdict e src kind markClear parsed = .marked markMalformed := by
  simp [State.verdict, Nat.not_le.mpr below, unknown]

theorem State.verdict_unpermitted (below : kind.toNat < 0x80) (known : requestKind kind = true)
    (unpermitted : kindPermitted e kind = false) : s.verdict e src kind markClear parsed = .marked markRefused := by
  simp [State.verdict, Nat.not_le.mpr below, known, unpermitted]

theorem State.verdict_formless (below : kind.toNat < 0x80) (known : requestKind kind = true)
    (permitted : kindPermitted e kind = true) (owned : (kindOwned kind && !s.authorised src) = false)
    (formless : ∀ r, parsed = some r → r.wellFormed = false) :
    s.verdict e src kind markClear parsed = .marked markMalformed := by
  unfold State.verdict
  cases h : parsed with
  | none => simp [Nat.not_le.mpr below, known, permitted, owned]
  | some r => simp [Nat.not_le.mpr below, known, permitted, owned, formless r h]

theorem State.verdict_busy {r : Request} (below : kind.toNat < 0x80) (known : requestKind kind = true)
    (permitted : kindPermitted e kind = true) (owned : (kindOwned kind && !s.authorised src) = false)
    (formed : r.wellFormed = true) (busy : 8 ≤ s.port.replies.length) :
    s.verdict e src kind markClear (some r) = .marked markBusy := by
  have full : Config.replyPlaces ≤ s.port.replies.length := busy
  simp [State.verdict, Nat.not_le.mpr below, known, permitted, owned, formed, full]

end Verdict

theorem State.request_marked {s : State} {h : ReqHeader} {e : Station} {r : Request} {m : Octet} (arrival : Ticks)
    (here : s.station h.dest = some e) (marked : s.verdict e h.src r.kind markClear (some r) = .marked m) :
    s.request h arrival r = s := by
  unfold State.request
  rw [here]
  dsimp only
  rw [marked]

theorem State.request_elsewhere {s : State} {h : ReqHeader} (arrival : Ticks) (r : Request)
    (elsewhere : s.station h.dest = none) : s.request h arrival r = s := by
  unfold State.request
  rw [elsewhere]

/-- A malformed request, and any request with 8 replies queued, does nothing. -/
theorem State.request_untaken {s : State} {r : Request} (h : ReqHeader) (arrival : Ticks)
    (untaken : r.wellFormed = false ∨ 8 ≤ s.port.replies.length) : s.request h arrival r = s := by
  rcases s.request_cases h arrival r with inert | ⟨e, q, -, taken, -⟩
  · exact inert
  · obtain ⟨-, same, formed, room⟩ := State.verdict_eq_taken taken
    cases same
    rcases untaken with formless | full
    · rw [formed] at formless
      cases formless
    · omega

/-! ## The request rows -/

/-- A request row is an inert one, or the request that it spells. -/
theorem exec_requestRow {c : Instr} {h : ReqHeader} {kind : Octet} (row : requestOf c = some (h, kind))
    (unicast : h.dest ≠ 0xFF) (s : State) :
    exec c s = .next s ∨ ∃ arrival r, r.kind = kind ∧ exec c s = answer s (s.request h arrival r) := by
  cases c with
  | write h' o i v =>
    cases row
    cases parsed : parseWrite o i v with
    | none => exact .inl (by simp [exec, execWrite, parsed])
    | some w => exact .inr ⟨s.lineTime, .write w, rfl, by simp [exec, execWrite, parsed]⟩
  | start h' | halt h' | resume h' | safe h' | clearWheel h' | claim h' | release h' =>
    cases row
    exact .inr ⟨_, .control _, rfl, congrArg (answer s) (if_neg unicast)⟩
  | schedule | cancel | poll | read | writeConfig | writeSlotExp | writeLineErrorLimit | writeAddress | writeChannel
  | writeTrigger | writeCaptureConfig | writeFault =>
    cases row
    exact .inr ⟨_, _, rfl, rfl⟩
  | _ => cases row

/-! ## Forms (R31) -/

theorem getLsbD_zero_eq (m : Octet) : m.getLsbD 0 = decide (m.toNat % 2 = 1) := by
  rw [BitVec.getLsbD, Nat.testBit_eq_decide_div_mod_eq, Nat.pow_zero, Nat.div_one]

theorem getLsbD_one_eq (m : Octet) : m.getLsbD 1 = decide (m.toNat / 2 % 2 = 1) := by
  rw [BitVec.getLsbD, Nat.testBit_eq_decide_div_mod_eq, Nat.pow_one]

/-- R198: the Mode as a number. -/
theorem descMode_cases (d : Descriptor) :
    (d.modeFlags.toNat % 4 = 0 ∧ descMode d = some .abs) ∨ (d.modeFlags.toNat % 4 = 1 ∧ descMode d = some .ref) ∨
    (d.modeFlags.toNat % 4 = 2 ∧ descMode d = some .arrival) ∨ (d.modeFlags.toNat % 4 = 3 ∧ descMode d = none) := by
  unfold descMode
  rw [getLsbD_zero_eq, getLsbD_one_eq]
  have cases4 : d.modeFlags.toNat % 4 = 0 ∨ d.modeFlags.toNat % 4 = 1 ∨ d.modeFlags.toNat % 4 = 2 ∨
      d.modeFlags.toNat % 4 = 3 := by omega
  rcases cases4 with mode | mode | mode | mode
  · exact .inl ⟨mode, by rw [decide_eq_false (show ¬ _ by omega), decide_eq_false (show ¬ _ by omega)]⟩
  · exact .inr (.inl ⟨mode, by rw [decide_eq_false (show ¬ _ by omega), decide_eq_true (by omega)]⟩)
  · exact .inr (.inr (.inl ⟨mode, by rw [decide_eq_true (by omega), decide_eq_false (show ¬ _ by omega)]⟩))
  · exact .inr (.inr (.inr ⟨mode, by rw [decide_eq_true (by omega), decide_eq_true (by omega)]⟩))

theorem descMode_isSome_iff (d : Descriptor) : (descMode d).isSome = true ↔ d.modeFlags.toNat % 4 ≠ 3 := by
  rcases descMode_cases d with ⟨mode, is⟩ | ⟨mode, is⟩ | ⟨mode, is⟩ | ⟨mode, is⟩ <;> simp [mode, is]

theorem wellFormed_schedule_iff (flags : Octet) (ds : List Descriptor) : (Request.schedule flags ds).wellFormed = true ↔
    1 ≤ ds.length ∧ ds.length ≤ 14 ∧ ∀ d ∈ ds, d.modeFlags.toNat % 4 ≠ 3 := by
  simp [Request.wellFormed, descMode_isSome_iff, and_assoc]

theorem wellFormed_cancel_iff (selector : Octet) (tag : Half) (channel : Octet) :
    (Request.cancel selector tag channel).wellFormed = true ↔
      selector = 1 ∨ (selector = 2 ∧ channel.toNat ≤ 15) ∨ selector = 3 := by
  simp [Request.wellFormed, Nat.lt_succ_iff, or_assoc]

theorem wellFormed_poll_iff (ackValid : Octet) (ackSeq : Half) (maxCount : Octet) :
    (Request.poll ackValid ackSeq maxCount).wellFormed = true ↔ 1 ≤ maxCount.toNat ∧ maxCount.toNat ≤ 16 := by
  simp [Request.wellFormed]

/-- R179: the nine objects and their indices. -/
theorem objectExists_iff (object index : Octet) : objectExists object index = true ↔ ObjectNamed object index := by
  have one : index = 0 ↔ index.toNat < 1 := by rw [← BitVec.toNat_inj]; simp
  unfold objectExists objectIndices ObjectNamed
  rw [decide_eq_true_iff, one]
  split_ifs <;> simp_all

theorem objectExists_eq_false_iff (object index : Octet) :
    objectExists object index = false ↔ ¬ ObjectNamed object index := by
  rw [← objectExists_iff, Bool.not_eq_true]

theorem named_tested {object index : Octet} (named : ObjectNamed object index) :
    ¬ (!objectExists object index) = true := by
  simp [(objectExists_iff object index).mpr named]

theorem writeLength_eq {object index : Octet} (named : ObjectNamed object index) :
    writeLength object = [5, 22, 2, 4, 6, 9, 1, 8, 10].getD (object.toNat - 1) 0 := by
  rcases named with ⟨rfl, -⟩ | ⟨rfl, -⟩ | ⟨rfl, -⟩ | ⟨rfl, -⟩ | ⟨rfl, -⟩ | ⟨rfl, -⟩ | ⟨rfl, -⟩ | ⟨rfl, -⟩ | ⟨rfl, -⟩ <;> rfl

theorem parseWrite_unnamed {object index : Octet} (unnamed : ¬ ObjectNamed object index) (value : List Octet) :
    parseWrite object index value = some (.plain object index) :=
  if_pos (by rw [(objectExists_eq_false_iff object index).mpr unnamed]; rfl)

theorem parseWrite_wrongLength {object index : Octet} {value : List Octet} (named : ObjectNamed object index)
    (wrong : value.length ≠ writeLength object) : parseWrite object index value = none :=
  (if_neg (named_tested named)).trans (if_pos wrong)

/-- A row that performs a request which is malformed does nothing. -/
theorem answer_formless {s : State} {h : ReqHeader} {arrival : Ticks} {r : Request} (formless : ¬ r.wellFormed = true) :
    answer s (s.request h arrival r) = .next s := by
  rw [State.request_untaken h arrival (.inl (Bool.eq_false_iff.mpr formless)), answer_self]

/-- Settles O18: the tests of step 6 that fail before the request is looked at, then the malformed forms. -/
theorem requestNotTakenDoesNothing : Obligations.RequestNotTakenDoesNothing := by
  refine ⟨fun c s h kind row unicast fails => ?_, fun s h => ⟨fun arrival flags ds bad => ?_,
    fun selector tag channel bad => ?_, fun ackValid ackSeq maxCount bad => ?_, fun object index value named wrong => ?_⟩⟩
  · rcases exec_requestRow row unicast s with inert | ⟨arrival, r, rfl, performs⟩
    · exact inert
    · obtain ⟨known, below⟩ := r.kind_known
      have unmoved : s.request h arrival r = s := by
        rcases fails with elsewhere | full | ⟨e, here, unpermitted | ⟨owned, claimed, other⟩⟩
        · exact State.request_elsewhere arrival r elsewhere
        · exact State.request_untaken h arrival (.inr full)
        · exact State.request_marked arrival here (State.verdict_unpermitted (Nat.not_le.mp below) known unpermitted)
        · exact State.request_marked arrival here
            (State.verdict_unauthorised owned ((s.authorised_eq_false_iff h.src).mpr ⟨claimed, other⟩) e _)
      rw [performs, unmoved, answer_self]
  · refine answer_formless fun formed => ?_
    obtain ⟨some, few, modes⟩ := (wellFormed_schedule_iff flags ds).mp formed
    rcases bad with rfl | many | ⟨d, hd, three⟩
    · cases some
    · omega
    · exact modes d hd three
  · exact answer_formless (mt (wellFormed_cancel_iff selector tag channel).mp bad)
  · refine answer_formless (mt (wellFormed_poll_iff ackValid ackSeq maxCount).mp ?_)
    rintro ⟨some, few⟩
    rcases bad with rfl | many
    · cases some
    · omega
  · have formless := parseWrite_wrongLength (value := value) named (by rwa [writeLength_eq named])
    simp [exec, execWrite, formless]

/-! ## What a payload spells (sections 11.3 and 11.5) -/

theorem parseWrite_plain {object index : Octet} (named : ObjectNamed object index) (readOnly : objectReadOnly object = true)
    {value : List Octet} (length : value.length = writeLength object) :
    parseWrite object index value = some (.plain object index) :=
  (if_neg (named_tested named)).trans
    ((if_neg (not_not.mpr length)).trans (if_pos readOnly))

section Parse

variable {index : Octet}

theorem parseWrite_config (named : ObjectNamed objConfig index) (a b : Octet) :
    parseWrite objConfig index [a, b] = some (.config index (a ++ b)) :=
  if_neg (named_tested named)

theorem parseWrite_address (named : ObjectNamed objAddress index) (a m n f : Octet) :
    parseWrite objAddress index [a, m, n, f] =
      some (.address (Fin.ofNat 8 index.toNat) { address := a, mask := m ++ n, flags := f }) :=
  if_neg (named_tested named)

theorem parseWrite_channel (named : ObjectNamed objChannel index) (f l a p q r : Octet) :
    parseWrite objChannel index [f, l, a, p, q, r] = some (.channel (Fin.ofNat 16 index.toNat)
      { flags := f, safeLevel := l, actionMask := a, maxPulse := p ++ q ++ r }) :=
  if_neg (named_tested named)

theorem parseWrite_trigger (named : ObjectNamed objTrigger index) (f l g c a p q r d : Octet) :
    parseWrite objTrigger index [f, l, g, c, a, p, q, r, d] = some (.trigger (Fin.ofNat 8 index.toNat)
      { flags := f, line := l, edge := g, channel := c, action := a, width := p ++ q ++ r, delay := d }) :=
  if_neg (named_tested named)

theorem parseWrite_fault (named : ObjectNamed objFault index) (m : Octet) :
    parseWrite objFault index [m] = some (.fault m) :=
  if_neg (named_tested named)

theorem parseWrite_captureConfig (named : ObjectNamed objCaptureConfig index) (n a b c d e f g i t : Octet) :
    parseWrite objCaptureConfig index [n, a, b, c, d, e, f, g, i, t] =
      some (.captureConfig { enable := n, edges := #v[a, b, c, d, e, f, g, i], filterTime := t }) :=
  if_neg (named_tested named)

end Parse

theorem parseWrite_isSome {object index : Octet} {value : List Octet} (named : ObjectNamed object index)
    (length : value.length = writeLength object) : ∃ w, parseWrite object index value = some w := by
  have objects := named
  rcases objects with ⟨rfl, -⟩ | ⟨rfl, -⟩ | ⟨rfl, -⟩ | ⟨rfl, -⟩ | ⟨rfl, -⟩ | ⟨rfl, -⟩ | ⟨rfl, -⟩ | ⟨rfl, -⟩ | ⟨rfl, -⟩
  case inl | inr.inl | inr.inr.inr.inr.inr.inr.inr.inl => exact ⟨_, parseWrite_plain named rfl length⟩
  · match value, length with
    | [a, b], _ => exact ⟨_, parseWrite_config named a b⟩
  · match value, length with
    | [a, m, n, f], _ => exact ⟨_, parseWrite_address named a m n f⟩
  · match value, length with
    | [f, l, a, p, q, r], _ => exact ⟨_, parseWrite_channel named f l a p q r⟩
  · match value, length with
    | [f, l, g, c, a, p, q, r, d], _ => exact ⟨_, parseWrite_trigger named f l g c a p q r d⟩
  · match value, length with
    | [m], _ => exact ⟨_, parseWrite_fault named m⟩
  · match value, length with
    | [n, a, b, c, d, e, f, g, i, t], _ => exact ⟨_, parseWrite_captureConfig named n a b c d e f g i t⟩

theorem parseWrite_isSome_iff (object index : Octet) (value : List Octet) :
    (∃ w, parseWrite object index value = some w) ↔ (ObjectNamed object index → value.length = writeLength object) := by
  constructor
  · rintro ⟨w, parsed⟩ named
    by_contra wrong
    rw [parseWrite_wrongLength named wrong] at parsed
    cases parsed
  · intro right
    by_cases named : ObjectNamed object index
    · exact parseWrite_isSome named (right named)
    · exact ⟨_, parseWrite_unnamed named value⟩

theorem parseDescriptors_eq_some {l : List Octet} {ds : List Descriptor} (parsed : parseDescriptors l = some ds) :
    l.length = 16 * ds.length ∧ ∀ i (hi : i < ds.length), ds[i].modeFlags = l.getD (16 * i + 2) 0 := by
  fun_induction parseDescriptors l generalizing ds with
  | case1 => cases parsed; exact ⟨rfl, nofun⟩
  | case2 c a m p t0 t1 t2 t3 w0 w1 w2 w3 g0 g1 n0 n1 rest ih =>
    obtain ⟨tail, parsedTail, rfl⟩ := Option.map_eq_some_iff.mp parsed
    obtain ⟨length, modes⟩ := ih parsedTail
    refine ⟨by simp only [List.length_cons, length]; omega, fun i hi => ?_⟩
    cases i with
    | zero => rfl
    | succ i => exact modes i (Nat.lt_of_succ_lt_succ hi)
  | case3 => cases parsed

theorem parseDescriptors_isSome {n : Nat} {l : List Octet} (length : l.length = 16 * n) :
    ∃ ds, parseDescriptors l = some ds := by
  induction n generalizing l with
  | zero => exact ⟨[], by rw [List.length_eq_zero_iff.mp length]; rfl⟩
  | succ n ih =>
    match l, length with
    | _ :: _ :: _ :: _ :: _ :: _ :: _ :: _ :: _ :: _ :: _ :: _ :: _ :: _ :: _ :: _ :: rest, length =>
      obtain ⟨ds, parsed⟩ := ih (l := rest) (by simp only [List.length_cons] at length; omega)
      exact ⟨_, congrArg (Option.map _) parsed⟩

/-- A payload spells a well-formed request of this kind (R31). -/
def Formed (kind : Octet) (payload : List Octet) : Prop :=
  ∃ r, parseRequest kind payload = some r ∧ r.wellFormed = true

theorem formed_schedule_iff (payload : List Octet) : Formed kindSchedule payload ↔
    ∃ n, 1 ≤ n ∧ n ≤ 14 ∧ payload.length = 1 + 16 * n ∧
      ∀ i < n, (payload.getD (1 + 16 * i + 2) 0).toNat % 4 ≠ 3 := by
  cases payload with
  | nil => exact ⟨fun ⟨_, parsed, _⟩ => (nomatch parsed), fun ⟨n, _, _, length, _⟩ => by simp at length; omega⟩
  | cons flags rest =>
    have mode (i : Nat) : (flags :: rest).getD (1 + 16 * i + 2) 0 = rest.getD (16 * i + 2) 0 := by
      rw [Nat.add_assoc, Nat.add_comm 1, List.getD_cons_succ]
    simp only [mode, List.length_cons]
    constructor
    · rintro ⟨r, parsed, formed⟩
      obtain ⟨ds, parsedDescs, rfl⟩ := Option.map_eq_some_iff.mp parsed
      obtain ⟨length, modes⟩ := parseDescriptors_eq_some parsedDescs
      obtain ⟨some, few, good⟩ := (wellFormed_schedule_iff flags ds).mp formed
      exact ⟨ds.length, some, few, by omega, fun i hi => modes i hi ▸ good _ (List.getElem_mem hi)⟩
    · rintro ⟨n, some, few, length, good⟩
      obtain ⟨ds, parsed⟩ := parseDescriptors_isSome (n := n) (l := rest) (by omega)
      obtain ⟨count, modes⟩ := parseDescriptors_eq_some parsed
      have same : ds.length = n := by omega
      refine ⟨_, congrArg (Option.map _) parsed, (wellFormed_schedule_iff flags ds).mpr ⟨by omega, by omega, ?_⟩⟩
      intro d hd
      obtain ⟨i, hi, rfl⟩ := List.getElem_of_mem hd
      exact modes i hi ▸ good i (same ▸ hi)

theorem formed_cancel_iff (payload : List Octet) : Formed kindCancel payload ↔
    payload.length = 4 ∧ (payload.getD 0 0 = 1 ∨ (payload.getD 0 0 = 2 ∧ (payload.getD 3 0).toNat ≤ 15) ∨
      payload.getD 0 0 = 3) := by
  constructor
  · rintro ⟨r, parsed, formed⟩
    rcases payload with _ | ⟨sel, _ | ⟨t0, _ | ⟨t1, _ | ⟨ch, _ | ⟨x, rest⟩⟩⟩⟩⟩ <;> cases parsed
    exact ⟨rfl, (wellFormed_cancel_iff ..).mp formed⟩
  · rintro ⟨length, good⟩
    match payload, length with
    | [sel, t0, t1, ch], _ => exact ⟨_, rfl, (wellFormed_cancel_iff sel (t0 ++ t1) ch).mpr good⟩

theorem formed_poll_iff (payload : List Octet) : Formed kindPoll payload ↔
    payload.length = 4 ∧ 1 ≤ (payload.getD 3 0).toNat ∧ (payload.getD 3 0).toNat ≤ 16 := by
  constructor
  · rintro ⟨r, parsed, formed⟩
    rcases payload with _ | ⟨av, _ | ⟨s0, _ | ⟨s1, _ | ⟨mc, _ | ⟨x, rest⟩⟩⟩⟩⟩ <;> cases parsed
    exact ⟨rfl, (wellFormed_poll_iff ..).mp formed⟩
  · rintro ⟨length, good⟩
    match payload, length with
    | [av, s0, s1, mc], _ => exact ⟨_, rfl, (wellFormed_poll_iff av (s0 ++ s1) mc).mpr good⟩

theorem formed_read_iff (payload : List Octet) : Formed kindRead payload ↔ payload.length = 2 := by
  constructor
  · rintro ⟨r, parsed, formed⟩
    rcases payload with _ | ⟨o, _ | ⟨i, _ | ⟨x, rest⟩⟩⟩ <;> cases parsed
    rfl
  · intro length
    match payload, length with
    | [o, i], _ => exact ⟨_, rfl, rfl⟩

theorem formed_write_iff (payload : List Octet) : Formed kindWrite payload ↔ 2 ≤ payload.length ∧
    (ObjectNamed (payload.getD 0 0) (payload.getD 1 0) →
      payload.length - 2 = [5, 22, 2, 4, 6, 9, 1, 8, 10].getD ((payload.getD 0 0).toNat - 1) 0) := by
  rcases payload with _ | ⟨o, _ | ⟨i, value⟩⟩
  · exact ⟨fun ⟨_, parsed, _⟩ => (nomatch parsed), fun ⟨short, _⟩ => absurd short (by decide)⟩
  · exact ⟨fun ⟨_, parsed, _⟩ => (nomatch parsed), fun ⟨short, _⟩ => absurd short (by simp)⟩
  · have spelt : Formed kindWrite (o :: i :: value) ↔ ∃ w, parseWrite o i value = some w := by
      constructor
      · rintro ⟨r, parsed, -⟩
        obtain ⟨w, parsedWrite, -⟩ := Option.map_eq_some_iff.mp parsed
        exact ⟨w, parsedWrite⟩
      · rintro ⟨w, parsedWrite⟩
        exact ⟨.write w, congrArg (Option.map _) parsedWrite, rfl⟩
    rw [spelt, parseWrite_isSome_iff]
    refine ⟨fun right => ⟨by simp, fun named => ?_⟩, fun ⟨_, right⟩ named => ?_⟩
    · rw [← writeLength_eq named]
      exact right named
    · rw [writeLength_eq named]
      exact right named

theorem Command.ofCode_code (c : Command) : Command.ofCode c.code = some c := by
  cases c <;> rfl

theorem Command.ofCode_eq_some {o : Octet} {c : Command} (h : Command.ofCode o = some c) : o = c.code := by
  unfold Command.ofCode at h
  split_ifs at h with h1 h2 h3 h4 h5 h6 h7 h8 <;> cases h <;> assumption

theorem Command.ofCode_isSome_iff (o : Octet) : (∃ c, Command.ofCode o = some c) ↔ 1 ≤ o.toNat ∧ o.toNat ≤ 8 := by
  constructor
  · rintro ⟨c, known⟩
    rw [Command.ofCode_eq_some known]
    cases c <;> decide
  · rintro ⟨low, high⟩
    unfold Command.ofCode
    simp only [← BitVec.toNat_inj, BitVec.reduceToNat]
    split_ifs
    case neg => omega
    all_goals exact ⟨_, rfl⟩

theorem parseRequest_control {payload : List Octet} {r : Request} (parsed : parseRequest kindControl payload = some r) :
    ∃ c, payload = [c.code] ∧ r = .control c := by
  rcases payload with _ | ⟨o, _ | ⟨x, rest⟩⟩
  · cases parsed
  · obtain ⟨c, known, rfl⟩ := Option.map_eq_some_iff.mp parsed
    exact ⟨c, by rw [Command.ofCode_eq_some known], rfl⟩
  · cases parsed

theorem formed_control_iff (payload : List Octet) : Formed kindControl payload ↔
    payload.length = 1 ∧ 1 ≤ (payload.getD 0 0).toNat ∧ (payload.getD 0 0).toNat ≤ 8 := by
  constructor
  · rintro ⟨r, parsed, -⟩
    obtain ⟨c, rfl, -⟩ := parseRequest_control parsed
    exact ⟨rfl, (Command.ofCode_isSome_iff c.code).mp ⟨c, c.ofCode_code⟩⟩
  · rintro ⟨length, code⟩
    match payload, length with
    | [o], _ =>
      obtain ⟨c, known⟩ := (Command.ofCode_isSome_iff o).mpr code
      exact ⟨.control c, congrArg (Option.map _) known, rfl⟩

/-- Settles O27, kind by kind. -/
theorem requestForms : Obligations.RequestForms := fun payload =>
  ⟨formed_schedule_iff payload, formed_cancel_iff payload, formed_poll_iff payload, formed_read_iff payload,
    formed_write_iff payload, formed_control_iff payload⟩

/-! ## What becomes of a frame (R24 to R35) -/

theorem State.station_eq_none_iff (s : State) (a : Octet) :
    s.station a = none ↔ ¬ ∃ i : Fin 8, ∃ e, s.addr[i] = some e ∧ e.address = a := by
  unfold State.station
  rw [List.findSome?_eq_none_iff]
  constructor
  · rintro absent ⟨i, e, held, rfl⟩
    have := absent (some e) (by rw [← held]; simp)
    simp at this
  · intro absent o member
    cases o with
    | none => rfl
    | some e =>
      obtain ⟨i, hi, held⟩ := List.getElem_of_mem member
      simp only [Vector.length_toList] at hi
      exact if_neg fun here => absent ⟨⟨i, hi⟩, e, held, here⟩

theorem State.ownsAddress_iff (s : State) (a : Octet) :
    s.ownsAddress a = true ↔ ∃ i : Fin 8, ∃ e, s.addr[i] = some e ∧ e.address = a := by
  rw [← not_iff_not, ← s.station_eq_none_iff, State.ownsAddress, Bool.not_eq_true, Option.isSome_eq_false_iff,
    Option.isNone_iff_eq_none]

theorem State.dispose_eq (s : State) (f : Received) (mark : Octet) :
    (∃ v, s.dispose f mark = s.setRx v) ∨ ∃ l, s.dispose f mark = s.setPort { s.port with forward := l } := by
  unfold State.dispose
  split
  · exact .inl ⟨_, rfl⟩
  · exact .inr ⟨_, rfl⟩

/-- Disposing of a frame leaves what the tests of the Classifier and of the Time Base look at. -/
theorem State.dispose_frame (s : State) (f : Received) (mark : Octet) : (s.dispose f mark).resetHeld = s.resetHeld ∧
    (s.dispose f mark).cfg = s.cfg ∧ (s.dispose f mark).owner = s.owner ∧ (s.dispose f mark).addr = s.addr := by
  rcases s.dispose_eq f mark with ⟨v, is⟩ | ⟨l, is⟩ <;> rw [is] <;> exact ⟨rfl, rfl, rfl, rfl⟩

theorem State.takeSync_ignored {s : State} {src : Octet} {payload : List Octet}
    (ignored : src ≠ s.cfg.timeSource ∨ payload.length ≠ 11) (arrival : Ticks) : s.takeSync src arrival payload = s := by
  refine if_neg ?_
  rw [State.acceptsSync, Bool.and_eq_true, decide_eq_true_iff, decide_eq_true_iff]
  rintro ⟨source, length⟩
  exact ignored.elim (absurd source) (absurd length)

theorem State.broadcast_ignored {s : State} {src : Octet} {c : Command}
    (ignored : c.hasBroadcast = false ∨ s.authorised src = false) (hops : Octet) : s.broadcast src hops c = s := by
  refine if_neg ?_
  rw [Bool.and_eq_true]
  rintro ⟨form, authorised⟩
  rcases ignored with formless | foreign
  · exact absurd form (by simp [formless])
  · exact absurd authorised (by simp [foreign])

theorem Command.code_mem_broadcast {c : Command} (h : c.hasBroadcast = true) :
    [c.code] ∈ [[(1 : Octet)], [2], [3], [4], [6]] := by
  revert h
  cases c <;> decide

section Classify

variable {s : State} {f : Received}

/-- Step 1: R25 removes a frame of the node's own. -/
theorem State.classify_own (kind : 0x80 ≤ f.frame.kind.toNat) (own : s.ownsAddress f.frame.src = true) :
    s.classify f = s.releaseBuffer :=
  if_pos ⟨kind, own⟩

variable (strange : ¬ (0x80 ≤ f.frame.kind.toNat ∧ s.ownsAddress f.frame.src = true))
include strange

/-- Steps 2 to 4: a broadcast SYNC. -/
theorem State.classify_sync (dest : f.frame.dest = 0xFF) (kind : f.frame.kind = kindSync) :
    s.classify f = (s.dispose f f.frame.mark).takeSync f.frame.src f.arrival f.frame.payload :=
  (if_neg strange).trans ((if_pos dest).trans (if_pos kind))

theorem State.classify_broadcast (dest : f.frame.dest = 0xFF) (sync : f.frame.kind ≠ kindSync)
    (control : f.frame.kind ≠ kindControl) : s.classify f = s.dispose f f.frame.mark :=
  (if_neg strange).trans ((if_pos dest).trans ((if_neg sync).trans (if_neg control)))

theorem State.classify_control {c : Command} (dest : f.frame.dest = 0xFF) (kind : f.frame.kind = kindControl)
    (parsed : parseRequest kindControl f.frame.payload = some (.control c)) :
    s.classify f = (s.dispose f f.frame.mark).broadcast f.frame.src f.frame.hops c := by
  unfold State.classify
  rw [if_neg strange]
  simp only [if_pos dest, if_neg (show f.frame.kind ≠ kindSync by rw [kind]; decide), if_pos kind, parsed]

theorem State.classify_noControl (dest : f.frame.dest = 0xFF) (kind : f.frame.kind = kindControl)
    (parsed : parseRequest kindControl f.frame.payload = none) : s.classify f = s.dispose f f.frame.mark := by
  unfold State.classify
  rw [if_neg strange]
  simp only [if_pos dest, if_neg (show f.frame.kind ≠ kindSync by rw [kind]; decide), if_pos kind, parsed]

theorem State.classify_elsewhere (dest : f.frame.dest ≠ 0xFF) (absent : s.station f.frame.dest = none) :
    s.classify f = s.dispose f f.frame.mark := by
  unfold State.classify
  rw [if_neg strange]
  simp only [if_neg dest, absent]

variable {e : Station} (dest : f.frame.dest ≠ 0xFF) (here : s.station f.frame.dest = some e)
include dest here

theorem State.classify_carried (verdict : s.verdict e f.frame.src f.frame.kind f.frame.mark
    (parseRequest f.frame.kind f.frame.payload) = .carried) : s.classify f = s.dispose f f.frame.mark := by
  unfold State.classify
  rw [if_neg strange]
  simp only [if_neg dest, here, verdict]

theorem State.classify_marked {m : Octet} (verdict : s.verdict e f.frame.src f.frame.kind f.frame.mark
    (parseRequest f.frame.kind f.frame.payload) = .marked m) : s.classify f = s.dispose f m := by
  unfold State.classify
  rw [if_neg strange]
  simp only [if_neg dest, here, verdict]

theorem State.classify_taken {r : Request} (verdict : s.verdict e f.frame.src f.frame.kind f.frame.mark
    (parseRequest f.frame.kind f.frame.payload) = .taken r) : s.classify f = (s.dispose f markTaken).perform
      { dest := f.frame.dest, src := f.frame.src, seq := f.frame.seq } e.mask f.arrival f.frame.hops r := by
  unfold State.classify
  rw [if_neg strange]
  simp only [if_neg dest, here, verdict]

end Classify

theorem requestKind_iff (kind : Octet) :
    requestKind kind = true ↔ kind ∈ [(0x10 : Octet), 0x11, 0x20, 0x30, 0x31, 0x32] := by
  simp [requestKind, or_assoc]

theorem kindPermitted_iff {kind : Octet} (known : requestKind kind = true) (e : Station) : kindPermitted e kind = true ↔
    (kind ∈ [(0x10 : Octet), 0x11] ∧ e.sched = true) ∨ (kind = 0x20 ∧ e.capt = true) ∨
      (kind ∈ [(0x30 : Octet), 0x31, 0x32] ∧ e.mgmt = true) := by
  rw [requestKind_iff] at known
  fin_cases known <;> simp [kindPermitted]

theorem foreign_iff (s : State) (kind src : Octet) : (kindOwned kind && !s.authorised src) = true ↔
    kind ∈ [(0x31 : Octet), 0x32] ∧ s.owner ≠ 0xFF ∧ s.owner ≠ src := by
  rw [Bool.and_eq_true, Bool.not_eq_true', State.authorised_eq_false_iff]
  simp [kindOwned]

/-- Settles O26: the steps of R24 in order, and for a frame to an entry the tests of step 6 in order. -/
theorem classifyDisposes : Obligations.ClassifyDisposes := by
  intro s f
  dsimp only
  refine ⟨fun kind held => State.classify_own kind ((s.ownsAddress_iff _).mpr held), fun foreign => ?_⟩
  have strange : ¬ (0x80 ≤ f.frame.kind.toNat ∧ s.ownsAddress f.frame.src = true) := by
    rw [s.ownsAddress_iff]
    rintro ⟨kind, held⟩
    exact foreign.elim (absurd kind ∘ Nat.not_le.mpr) (absurd held)
  obtain ⟨-, cfg, owner, -⟩ := s.dispose_frame f f.frame.mark
  refine ⟨fun dest sync control => ?_, fun dest kind ignored => ?_, fun dest kind ignored => ?_, fun dest absent => ?_,
    fun e dest here => ⟨fun passed => ?_, fun clear below => ⟨fun unknown => ?_, fun known unpermitted => ?_,
      fun known permitted foreign => ?_, fun known permitted own formless => ?_,
      fun known permitted own formed busy => ?_⟩⟩⟩
  · exact State.classify_broadcast strange dest sync control
  · rw [State.classify_sync strange dest kind, State.takeSync_ignored (by rwa [cfg])]
    rfl
  · cases parsed : parseRequest kindControl f.frame.payload with
    | none => exact State.classify_noControl strange dest kind parsed
    | some r =>
      obtain ⟨c, spelt, rfl⟩ := parseRequest_control parsed
      rw [State.classify_control strange dest kind parsed, State.broadcast_ignored]
      · rfl
      · refine ignored.imp (fun absent => ?_) fun other => ?_
        · rw [spelt] at absent
          exact Bool.eq_false_iff.mpr fun form => absent (Command.code_mem_broadcast form)
        · rwa [State.authorised_eq_false_iff, owner]
  · exact State.classify_elsewhere strange dest ((s.station_eq_none_iff _).mpr absent)
  · exact State.classify_carried strange dest here (State.verdict_passed passed)
  all_goals
    refine State.classify_marked strange dest here ?_
    rw [clear]
  · exact State.verdict_unknown below (Bool.eq_false_iff.mpr (mt (requestKind_iff _).mp unknown))
  all_goals have known := (requestKind_iff _).mpr known
  · exact State.verdict_unpermitted below known (Bool.eq_false_iff.mpr (mt (kindPermitted_iff known e).mp unpermitted))
  all_goals have permitted := (kindPermitted_iff known e).mpr permitted
  · obtain ⟨owned, other⟩ := Bool.and_eq_true_iff.mp ((foreign_iff s _ _).mpr foreign)
    exact State.verdict_unauthorised owned (by simpa using other) e _
  all_goals have own := Bool.eq_false_iff.mpr (mt (foreign_iff s _ _).mp own)
  · refine State.verdict_formless below known permitted own fun r parsed => ?_
    exact Bool.eq_false_iff.mpr fun formed => formless ⟨r, parsed, formed⟩
  · obtain ⟨r, parsed, formed⟩ := formed
    rw [parsed]
    exact State.verdict_busy below known permitted own formed busy

/-! ## The frame and the row (R33) -/

theorem State.perform_hops {r : Request} (other : r ≠ .control .restart) (s : State) (h : ReqHeader) (mask : BitVec 16)
    (arrival : Ticks) (hops : Octet) : s.perform h mask arrival hops r = s.perform h mask arrival 0 r := by
  cases r with
  | control c =>
    rw [State.perform_control fun is => other (is ▸ rfl), State.perform_control fun is => other (is ▸ rfl)]
  | _ => rfl

/-- Only a SCHEDULE looks at its frame's arrival. -/
theorem State.perform_arrival {r : Request} (other : r.kind ≠ kindSchedule) (s : State) (h : ReqHeader)
    (mask : BitVec 16) (arrival arrival' : Ticks) (hops : Octet) :
    s.perform h mask arrival hops r = s.perform h mask arrival' hops r := by
  cases r with
  | schedule flags ds => exact absurd rfl other
  | control c =>
    by_cases restart : c = .restart
    · rw [restart]; rfl
    · rw [State.perform_control restart, State.perform_control restart]
  | _ => rfl

theorem parseRequest_kind {kind : Octet} {payload : List Octet} {r : Request} (known : requestKind kind = true)
    (parsed : parseRequest kind payload = some r) : r.kind = kind := by
  rw [requestKind_iff] at known
  fin_cases known
  · rcases payload with _ | ⟨flags, rest⟩
    · cases parsed
    · obtain ⟨ds, -, rfl⟩ := Option.map_eq_some_iff.mp parsed
      rfl
  · rcases payload with _ | ⟨sel, _ | ⟨t0, _ | ⟨t1, _ | ⟨ch, _ | ⟨x, rest⟩⟩⟩⟩⟩ <;> cases parsed
    rfl
  · rcases payload with _ | ⟨av, _ | ⟨s0, _ | ⟨s1, _ | ⟨mc, _ | ⟨x, rest⟩⟩⟩⟩⟩ <;> cases parsed
    rfl
  · rcases payload with _ | ⟨o, _ | ⟨i, _ | ⟨x, rest⟩⟩⟩ <;> cases parsed
    rfl
  · rcases payload with _ | ⟨o, _ | ⟨i, value⟩⟩
    · cases parsed
    · cases parsed
    · obtain ⟨w, -, rfl⟩ := Option.map_eq_some_iff.mp parsed
      rfl
  · obtain ⟨c, -, rfl⟩ := parseRequest_control parsed
    rfl

theorem parseWrite_eq_plain {object index o i : Octet} {value : List Octet}
    (parsed : parseWrite object index value = some (.plain o i)) : object = o ∧ index = i := by
  unfold parseWrite at parsed
  split_ifs at parsed
  case pos | pos => cases parsed; exact ⟨rfl, rfl⟩
  all_goals split at parsed <;> cases parsed

/-- What a plain WRITE parses from, its row parses again. -/
theorem parseWrite_of_plain {payload : List Octet} {o i : Octet}
    (parsed : parseRequest kindWrite payload = some (.write (.plain o i))) :
    parseWrite o i (payload.drop 2) = some (.plain o i) := by
  rcases payload with _ | ⟨object, _ | ⟨index, value⟩⟩
  · cases parsed
  · cases parsed
  · obtain ⟨w, parsedWrite, same⟩ := Option.map_eq_some_iff.mp parsed
    cases same
    obtain ⟨rfl, rfl⟩ := parseWrite_eq_plain parsedWrite
    exact parsedWrite

/-- R33: a request row that an entry takes. -/
theorem State.answer_request_taken {t : State} {h : ReqHeader} {e : Station} {r : Request} (takes : t.Takes h r.kind e)
    (formed : r.wellFormed = true) (arrival : Ticks) :
    answer t (t.request h arrival r) = .next (t.perform h e.mask arrival 0 r).settle := by
  rw [answer_up takes.1, State.request_taken takes formed]

theorem Frame.row_eq_none {f : Frame} (parsed : parseRequest f.kind f.payload = none) (arrival : Ticks) :
    f.row arrival = none := by
  simp only [Frame.row, parsed]

/-- A row that performs a request: some arrival, which only a SCHEDULE looks at, and the request itself. -/
theorem exec_row {t : State} {f : Frame} {r : Request} {c : Instr} {arrival : Ticks}
    (parsed : parseRequest f.kind f.payload = some r) (known : requestKind f.kind = true) (row : f.row arrival = some c) :
    r ≠ .control .restart ∧ ((∃ k, r = .control k ∧
      exec c t = answer t (t.control { dest := f.dest, src := f.src, seq := f.seq } k)) ∨
    (∀ k, r ≠ .control k) ∧ ∃ arrival', (r.kind = kindSchedule → arrival' = arrival) ∧
      exec c t = answer t (t.request { dest := f.dest, src := f.src, seq := f.seq } arrival' r)) := by
  have kind := parseRequest_kind known parsed
  simp only [Frame.row, parsed] at row
  cases r with
  | schedule => cases row; exact ⟨nofun, .inr ⟨nofun, _, fun _ => rfl, rfl⟩⟩
  | cancel | poll | read => cases row; exact ⟨nofun, .inr ⟨nofun, _, nofun, rfl⟩⟩
  | write w =>
    refine ⟨nofun, .inr ⟨nofun, t.lineTime, nofun, ?_⟩⟩
    cases w with
    | plain o i =>
      cases row
      rw [← kind] at parsed
      simp only [exec, execWrite, parseWrite_of_plain parsed]
    | config i v =>
      cases row
      split_ifs with slotExp limit
      · rw [slotExp]; rfl
      · rw [limit]; rfl
      · rfl
    | address | channel | trigger | captureConfig | fault => cases row; rfl
  | control k =>
    cases k with
    | restart => cases row
    | _ => cases row; exact ⟨nofun, .inl ⟨_, rfl, rfl⟩⟩

theorem State.broadcast_hops {k : Command} (other : k ≠ .restart) (t : State) (src hops : Octet) :
    t.broadcast src hops k = t.broadcast src 0 k := by
  cases k with
  | restart => exact absurd rfl other
  | _ => rfl

theorem State.Takes.disposed {s : State} {h : ReqHeader} {kind : Octet} {e : Station} (takes : s.Takes h kind e)
    (f : Received) (mark : Octet) : (s.dispose f mark).Takes h kind e := by
  obtain ⟨held, -, owner, addr⟩ := s.dispose_frame f mark
  obtain ⟨up, unicast, here, permitted, owned, room⟩ := takes
  refine ⟨held.trans up, unicast, ?_, permitted, ?_, ?_⟩
  · rw [← here, State.station, State.station, addr]
  · rw [State.authorised, owner]
    exact owned
  · rwa [State.dispose_replies]

/-- Settles O28: the classified frame is disposed of and its request performed, which is what the row does there. -/
theorem fePerformsTheRow : Obligations.FePerformsTheRow := by
  intro s f up below
  have strange : ¬ (0x80 ≤ f.frame.kind.toNat ∧ s.ownsAddress f.frame.src = true) :=
    fun h => absurd h.1 (Nat.not_le.mpr below)
  refine ⟨fun e r c takes clear known parsed formed row => ?_, fun dest kind source length => ?_,
    fun c dest kind row => ?_⟩
  · have kind := parseRequest_kind known parsed
    rw [← kind] at takes
    have takesKept := takes.disposed f markTaken
    have ⟨_, unicast, here, _⟩ := takes
    have verdict : s.verdict e f.frame.src f.frame.kind f.frame.mark (parseRequest f.frame.kind f.frame.payload) =
        .taken r := by
      rw [parsed, ← kind, clear]
      exact State.verdict_takes takes formed
    rw [State.classify_taken strange unicast here verdict]
    show exec c (s.dispose f markTaken) = _
    obtain ⟨other, row⟩ := exec_row (t := s.dispose f markTaken) parsed known row
    rw [State.perform_hops other]
    rcases row with ⟨k, rfl, performs⟩ | ⟨-, arrival, same, performs⟩
    · rw [performs, State.control, if_neg unicast, State.answer_request_taken takesKept formed,
        State.perform_arrival (r := .control k) (show kindControl ≠ kindSchedule by decide) _ _ _ _ f.arrival]
    · rw [performs, State.answer_request_taken takesKept formed]
      by_cases schedule : r.kind = kindSchedule
      · rw [same schedule]
      · rw [State.perform_arrival schedule _ _ _ _ f.arrival]
  · obtain ⟨held, cfg, -, -⟩ := s.dispose_frame f f.frame.mark
    have accepts : (s.dispose f f.frame.mark).acceptsSync f.frame.src f.frame.payload = true := by
      simp [State.acceptsSync, cfg, source, length]
    rw [State.classify_sync strange dest kind]
    exact (congrArg (answer _) (if_pos accepts)).trans (answer_up (held.trans up))
  · obtain ⟨held, -, -, -⟩ := s.dispose_frame f f.frame.mark
    cases parsed : parseRequest kindControl f.frame.payload with
    | none => rw [Frame.row_eq_none (by rw [kind]; exact parsed)] at row; cases row
    | some r =>
      obtain ⟨k, -, rfl⟩ := parseRequest_control parsed
      show exec c (s.dispose f f.frame.mark) = _
      obtain ⟨other, ⟨k', same, performs⟩ | ⟨noControl, -⟩⟩ :=
        exec_row (t := s.dispose f f.frame.mark) (by rw [kind]; exact parsed) (by rw [kind]; rfl) row
      · cases same
        rw [performs, State.classify_control strange dest kind parsed, State.control, if_pos dest,
          answer_up (held.trans up), State.broadcast_hops (fun is => other (is ▸ rfl)) _ _ f.frame.hops]
      · exact absurd rfl (noControl k)

end Sys2Proof.Machine
end

section
/-! Statements about CONTROL (sections 6.1, 10.1, 10.5): START, RESUME, HALT, CLEAR_WHEEL, SAFE, RELEASE. -/

namespace Sys2Proof.Machine

/-! ## The commands (R103 to R108, R178) -/

theorem State.freezeLatched_iff (s : State) : s.freezeLatched = true ↔ s.FreezeLatched := by
  simp [State.freezeLatched, State.FreezeLatched]

theorem State.run_ok {s : State} {start : SchedState} (state : s.sched.state = start) (clear : ¬ s.FreezeLatched) :
    s.run start = (.ok, { s with sched := { s.sched with state := .running } }) :=
  if_pos ⟨state, Bool.eq_false_iff.mpr (mt s.freezeLatched_iff.mp clear)⟩

theorem State.run_refused {s : State} {start : SchedState} (refused : s.sched.state ≠ start ∨ s.FreezeLatched) :
    s.run start = (.state, s) := by
  refine if_neg fun ⟨state, clear⟩ => refused.elim (absurd state) fun latched => ?_
  rw [s.freezeLatched_iff.mpr latched] at clear
  cases clear

/-- R104: what HALT does outside HALTED: every record is freed, in link order (log 14). -/
theorem State.haltNow_of_ne {s : State} (state : s.sched.state ≠ .halted) : s.haltNow =
    { s with sched := { state := .halted, curSlot := s.sched.curSlot,
                        free := s.sched.free ++ s.sched.wheel.map ActionRecord.id, wheel := [] } } := by
  unfold State.haltNow
  split
  · contradiction
  · rfl
  · rfl

theorem State.haltNow_halted {s : State} (state : s.sched.state = .halted) : s.haltNow = s := by
  simp [State.haltNow, state]

theorem State.clearWheelNow_of_ne {s : State} (state : s.sched.state ≠ .halted) : s.clearWheelNow =
    { s with sched := { s.sched with free := s.sched.free ++ s.sched.wheel.map ActionRecord.id, wheel := [] } } := by
  unfold State.clearWheelNow
  split
  · contradiction
  · rfl
  · rfl

theorem State.clearWheelNow_halted {s : State} (state : s.sched.state = .halted) : s.clearWheelNow = s := by
  simp [State.clearWheelNow, state]

/-- R136: a safe-level drive written out, with any way of writing the levels. -/
theorem State.safeDrive_eq {s : State} {level : Fin 16 → Bool}
    (safe : ∀ n, level n = (safeOne s.out.table[n] s.out.chans[n]).level) : s.safeDrive =
      { s with out := { s.out with
        chans := Vector.ofFn fun n => { s.out.chans[n] with level := level n, pulseEnd := none } } } := by
  have chans : Vector.zipWith safeOne s.out.table s.out.chans =
      Vector.ofFn fun n => { s.out.chans[n] with level := level n, pulseEnd := none } := by
    refine Vector.ext fun n hn => ?_
    rw [Vector.getElem_zipWith, Vector.getElem_ofFn, safe]
    rfl
  rw [State.safeDrive, chans]
  rfl

theorem State.safeNow_running {s : State} (state : s.sched.state = .running) :
    s.safeNow = State.safeDrive { s with sched := { s.sched with state := .frozen } } := by
  simp [State.safeNow, state, State.setSched]

theorem State.safeNow_of_ne {s : State} (state : s.sched.state ≠ .running) : s.safeNow = s.safeDrive := by
  unfold State.safeNow
  split
  · contradiction
  · rfl
  · rfl

theorem State.releaseBy_owner {s : State} {src : Octet} (owner : s.owner = src) :
    s.releaseBy src = (.ok, { s with owner := 0xFF }) :=
  if_pos owner

theorem State.releaseBy_unclaimed {s : State} (unclaimed : s.owner = 0xFF) (src : Octet) : s.releaseBy src = (.ok, s) := by
  unfold State.releaseBy
  split
  · rw [State.setOwner, ← unclaimed]
  · rfl

/-! ## Taken and broadcast (R27, R33) -/

theorem State.authorised_iff (s : State) (src : Octet) : s.authorised src = true ↔ s.owner = 0xFF ∨ s.owner = src := by
  simp [State.authorised, eq_comm (a := src)]

/-- R27, R189: what a broadcast CONTROL from an authorised Src does. -/
theorem State.control_broadcast {s : State} {h : ReqHeader} {k : Command} (dest : h.dest = 0xFF)
    (authorised : s.authorised h.src = true) (form : k.hasBroadcast = true) (other : k ≠ .restart) :
    s.control h k = (s.command h.src k).2 := by
  unfold State.control State.broadcast
  rw [if_pos dest, form, authorised]
  cases k with
  | restart => exact absurd rfl other
  | _ => rfl

theorem State.answer_control_broadcast {s : State} {h : ReqHeader} {k : Command} (up : s.resetHeld = false)
    (dest : h.dest = 0xFF) (authorised : s.authorised h.src = true) (form : k.hasBroadcast = true) (other : k ≠ .restart)
    {r : MgmtResult} {t : State} (does : s.command h.src k = (r, t)) : answer s (s.control h k) = .next t := by
  rw [answer_up up, State.control_broadcast dest authorised form other, does]

theorem State.answer_control_inert {s : State} {h : ReqHeader} {k : Command} (dest : h.dest = 0xFF)
    (ignored : k.hasBroadcast = false ∨ s.authorised h.src = false) : answer s (s.control h k) = .next s := by
  rw [State.control, if_pos dest, State.broadcast_ignored ignored, answer_self]

/-- Queueing the result and the end of the event leave the Scheduler and the channels as the command left them. -/
theorem resulted_settle_sched_out (t : State) (h : ReqHeader) (r : MgmtResult) :
    (t.resulted h r).settle.sched = t.sched ∧ (t.resulted h r).settle.out = t.out := by
  simp [State.resulted, State.answered]

/-- Settles O41: each command by the scheduler state and the latched faults. -/
theorem startResumeAndHalt : Obligations.StartResumeAndHalt := by
  intro s h e takes
  refine ⟨fun state clear => ?_, fun refused => ?_, fun state clear => ?_, fun refused => ?_, fun state => ?_,
    fun state => ?_⟩
  · exact State.answer_control_taken (c := .start) (by decide) takes (State.run_ok state clear)
  · exact State.answer_control_taken (c := .start) (by decide) takes (State.run_refused refused)
  · exact State.answer_control_taken (c := .resume) (by decide) takes (State.run_ok state clear)
  · exact State.answer_control_taken (c := .resume) (by decide) takes (State.run_refused refused)
  · exact State.answer_control_taken (c := .halt) (by decide) takes (congrArg _ (State.haltNow_of_ne state))
  · exact State.answer_control_taken (c := .halt) (by decide) takes (congrArg _ (State.haltNow_halted state))

/-- Settles O42: CLEAR_WHEEL taken outside HALTED and in it, and broadcast. -/
theorem clearWheelFreesAll : Obligations.ClearWheelFreesAll := by
  intro s h
  refine ⟨fun e takes => ⟨fun state => ⟨?cleared, ?halted, ?_, ?_, ?_, ?_, ?_⟩, fun state => ?_⟩, fun dest => ?_⟩
  case cleared =>
    exact State.answer_control_taken (c := .clearWheel) (by decide) takes (congrArg _ (State.clearWheelNow_of_ne state))
  case halted => exact State.answer_control_taken (c := .halt) (by decide) takes (congrArg _ (State.haltNow_of_ne state))
  · exact (resulted_settle_sched_out _ h .ok).1
  · exact (resulted_settle_sched_out _ h .ok).2
  · simp [State.resulted, State.answered]
  · simp [State.resulted, State.answered]
  · simp [State.FreezeLatched, State.resulted, State.answered]
  · exact State.answer_control_taken (c := .clearWheel) (by decide) takes (congrArg _ (State.clearWheelNow_halted state))
  · exact State.answer_control_inert (k := .clearWheel) dest (.inl rfl)

/-- Settles O43: SAFE and the FREEZE response are one drive, with or without the change to FROZEN. -/
theorem safeDrivesEveryChannel : Obligations.SafeDrivesEveryChannel := by
  intro s
  refine ⟨fun h e takes => ⟨fun state => ?_, fun state => ?_⟩, fun state => ?_, fun state => ?_,
    State.freezeResponse_frozen⟩
  · exact State.answer_control_taken (c := .safe) (by decide) takes
      (congrArg _ ((State.safeNow_running state).trans (State.safeDrive_eq fun _ => rfl)))
  · exact State.answer_control_taken (c := .safe) (by decide) takes
      (congrArg _ ((State.safeNow_of_ne state).trans (State.safeDrive_eq fun _ => rfl)))
  · exact (State.freezeResponse_running state).trans (State.safeDrive_eq fun _ => rfl)
  · exact (State.freezeResponse_halted state).trans (State.safeDrive_eq fun _ => rfl)

/-- Settles O45: RELEASE taken, broadcast and refused; either way of taking it leaves the node unclaimed. -/
theorem releaseClearsTheOwner : Obligations.ReleaseClearsTheOwner := by
  intro s h
  have byOwner {e : Station} (takes : s.Takes h 0x32 e) (owner : s.owner = h.src) :
      exec (.release h) s = .next ({ s with owner := 0xFF }.resulted h .ok).settle :=
    State.answer_control_taken (c := .release) (by decide) takes (State.releaseBy_owner owner)
  have unclaimed {e : Station} (takes : s.Takes h 0x32 e) (none : s.owner = 0xFF) :
      exec (.release h) s = .next (s.resulted h .ok).settle :=
    State.answer_control_taken (c := .release) (by decide) takes (State.releaseBy_unclaimed none h.src)
  refine ⟨fun e takes => ⟨byOwner takes, unclaimed takes, fun t is src => ?_⟩, fun dest => ?_, fun dest claimed other => ?_⟩
  · rw [State.authorised_iff]
    rcases (s.authorised_iff h.src).mp (takes.2.2.2.2.1 rfl) with none | owner
    · cases (unclaimed takes none).symm.trans is
      exact .inl (by simpa [State.resulted, State.answered] using none)
    · cases (byOwner takes owner).symm.trans is
      exact .inl (by simp [State.resulted, State.answered])
  · exact State.answer_control_inert (k := .release) dest (.inl rfl)
  · exact (congrArg (answer s) (State.control_unauthorised dest
      ((s.authorised_eq_false_iff h.src).mpr ⟨claimed, other⟩) .release)).trans (answer_self s)

/-- The same command by broadcast and by unicast from one Src does the same to the Scheduler and the channels. -/
theorem broadcast_agrees {s t u : State} {h g : ReqHeader} {e : Station} {k : Command} (up : s.resetHeld = false)
    (dest : h.dest = 0xFF) (authorised : s.authorised h.src = true) (form : k.hasBroadcast = true) (other : k ≠ .restart)
    (src : g.src = h.src) (takes : s.Takes g kindControl e) (byBroadcast : answer s (s.control h k) = .next t)
    (byUnicast : answer s (s.control g k) = .next u) : t.sched = u.sched ∧ t.out = u.out := by
  cases (State.answer_control_broadcast up dest authorised form other rfl).symm.trans byBroadcast
  cases (State.answer_control_taken other takes rfl).symm.trans byUnicast
  rw [src]
  exact (resulted_settle_sched_out _ g _).imp Eq.symm Eq.symm

/-- Settles O46: the four commands by broadcast, by the scheduler state and the latched faults. -/
theorem broadcastControlActs : Obligations.BroadcastControlActs := by
  intro s h up dest
  refine ⟨fun owner => ?_, fun claimed other => ?_⟩
  · have authorised := (s.authorised_iff h.src).mpr owner
    refine ⟨fun state clear => ?_, fun refused => ?_, fun state clear => ?_, fun refused => ?_, fun state => ?_,
      fun state => ?_, fun state => ?_, fun state => ?_, fun g e t u src takes => ⟨?_, ?_, ?_, ?_⟩⟩
    · exact State.answer_control_broadcast (k := .start) up dest authorised rfl (by decide) (State.run_ok state clear)
    · exact State.answer_control_broadcast (k := .start) up dest authorised rfl (by decide) (State.run_refused refused)
    · exact State.answer_control_broadcast (k := .resume) up dest authorised rfl (by decide) (State.run_ok state clear)
    · exact State.answer_control_broadcast (k := .resume) up dest authorised rfl (by decide) (State.run_refused refused)
    · exact State.answer_control_broadcast (k := .halt) up dest authorised rfl (by decide)
        (congrArg _ (State.haltNow_of_ne state))
    · exact State.answer_control_broadcast (k := .halt) up dest authorised rfl (by decide)
        (congrArg _ (State.haltNow_halted state))
    · exact State.answer_control_broadcast (k := .safe) up dest authorised rfl (by decide)
        (congrArg _ ((State.safeNow_running state).trans (State.safeDrive_eq fun _ => rfl)))
    · exact State.answer_control_broadcast (k := .safe) up dest authorised rfl (by decide)
        (congrArg _ ((State.safeNow_of_ne state).trans (State.safeDrive_eq fun _ => rfl)))
    · exact broadcast_agrees (k := .start) up dest authorised rfl (by decide) src takes
    · exact broadcast_agrees (k := .halt) up dest authorised rfl (by decide) src takes
    · exact broadcast_agrees (k := .resume) up dest authorised rfl (by decide) src takes
    · exact broadcast_agrees (k := .safe) up dest authorised rfl (by decide) src takes
  · have foreign := (s.authorised_eq_false_iff h.src).mpr ⟨claimed, other⟩
    exact ⟨State.answer_control_inert (k := .start) dest (.inr foreign),
      State.answer_control_inert (k := .halt) dest (.inr foreign),
      State.answer_control_inert (k := .resume) dest (.inr foreign),
      State.answer_control_inert (k := .safe) dest (.inr foreign)⟩

end Sys2Proof.Machine
end

section
/-! Statements about management (chapter 10): WRITE and its objects. -/

namespace Sys2Proof.Machine

/-! ## The CONFIG fields by index (R186, R202) -/

/-- The values of the 24 fields in the order of their indices. -/
def ConfigFields.values (c : ConfigFields) : List Nat :=
  [c.slotExp, c.lead, c.window, c.catchUpLimit, c.stepLimit, c.syncTimeout, c.holdoverLimit, c.linkDelay,
   c.lineRate.code.toNat, c.arbiterRatio, c.lineErrorLimit, c.replyHops, c.reportAddress.toNat, c.timeSource.toNat,
   (if c.reportAbnormal then 1 else 0), (if c.faultNotices then 1 else 0)] ++ c.responses.toList.map Response.code

theorem ConfigFields.length_values (c : ConfigFields) : c.values.length = 24 := by
  simp [ConfigFields.values]

/-- A READ's field is the value at its index. -/
theorem ConfigFields.getElem?_values (c : ConfigFields) {i : Nat} (hi : i < 24) : c.values[i]? = some (c.get i) := by
  by_cases response : 16 ≤ i
  · obtain ⟨n, rfl⟩ := Nat.exists_eq_add_of_le response
    have small : n < 8 := by omega
    have get : c.get (16 + n) = c.responses[n].code := by
      interval_cases n <;> rfl
    rw [get, ConfigFields.values, List.getElem?_append_right (by simp)]
    simp [small]
  · interval_cases i <;> rfl

theorem LineRate.ofCode_eq_some {v : Nat} {r : LineRate} (h : LineRate.ofCode v = some r) : v = r.code.toNat := by
  unfold LineRate.ofCode at h
  split at h <;> cases h <;> rfl

theorem LineRate.ofCode_isSome_iff (v : Nat) : (∃ r, LineRate.ofCode v = some r) ↔ v = 1 ∨ v = 2 ∨ v = 4 ∨ v = 8 := by
  constructor
  · rintro ⟨r, known⟩
    rw [LineRate.ofCode_eq_some known]
    cases r <;> decide
  · rintro (rfl | rfl | rfl | rfl) <;> exact ⟨_, rfl⟩

theorem boolOfNat_eq_some {v : Nat} {b : Bool} (h : boolOfNat v = some b) : v = if b then 1 else 0 := by
  unfold boolOfNat at h
  split at h <;> cases h <;> rfl

theorem boolOfNat_isSome_iff (v : Nat) : (∃ b, boolOfNat v = some b) ↔ v ≤ 1 := by
  constructor
  · rintro ⟨b, known⟩
    rw [boolOfNat_eq_some known]
    cases b <;> decide
  · intro small
    interval_cases v <;> exact ⟨_, rfl⟩

/-- R202: a value is put into a field exactly when it lies in the field's range. -/
theorem ConfigFields.put_isSome_iff (c : ConfigFields) {i : Nat} (hi : i < 24) (v : Nat) :
    (∃ d, c.put i v = some d) ↔ ConfigRange c i v := by
  have mapped {α : Type} (o : Option α) (f : α → ConfigFields) : (∃ d, o.map f = some d) ↔ ∃ a, o = some a := by
    cases o <;> simp
  obtain low | rfl | ⟨above, below⟩ | flag : i < 8 ∨ i = 8 ∨ (9 ≤ i ∧ i < 14) ∨ 14 ≤ i := by omega
  · interval_cases i <;> simp [ConfigFields.put, ConfigRange]
  · refine ((mapped _ _).trans (LineRate.ofCode_isSome_iff v)).trans ?_
    simp [ConfigRange]
  · interval_cases i <;> simp [ConfigFields.put, ConfigRange]
  · have range : ConfigRange c i v ↔ v ≤ 1 := by
      interval_cases i <;> simp [ConfigRange]
    rw [range, ← boolOfNat_isSome_iff v]
    interval_cases i <;> exact mapped _ _

/-- R186: putting a value into a field changes that field only. -/
theorem ConfigFields.put_values {c d : ConfigFields} {i v : Nat} (hi : i < 24) (h : c.put i v = some d) :
    d.values = c.values.set i v := by
  by_cases response : 16 ≤ i
  · obtain ⟨n, rfl⟩ := Nat.exists_eq_add_of_le response
    have small : n < 8 := by omega
    have put : c.put (16 + n) v = (boolOfNat v).map fun b =>
        { c with responses := c.responses.set n (if b then Response.freeze else Response.note) } := by
      interval_cases n <;> rfl
    rw [put] at h
    obtain ⟨b, known, rfl⟩ := Option.map_eq_some_iff.mp h
    have code : (if b then Response.freeze else Response.note).code = v := by
      rw [boolOfNat_eq_some known]
      cases b <;> rfl
    rw [ConfigFields.values, ConfigFields.values, List.set_append_right _ _ (by simp), Vector.toList_set, List.map_set, code]
    simp
  · obtain low | rfl | ⟨above, below⟩ | code | flag :
        i < 8 ∨ i = 8 ∨ (9 ≤ i ∧ i < 12) ∨ (12 ≤ i ∧ i < 14) ∨ (14 ≤ i ∧ i < 16) := by omega
    · interval_cases i <;> (obtain ⟨-, ⟨⟩⟩ := Option.ite_none_right_eq_some.mp h; rfl)
    · obtain ⟨r, known, rfl⟩ := Option.map_eq_some_iff.mp h
      rw [LineRate.ofCode_eq_some known]
      rfl
    · interval_cases i <;> (obtain ⟨-, ⟨⟩⟩ := Option.ite_none_right_eq_some.mp h; rfl)
    · have octet (small : v ≤ 0xFE) : (BitVec.ofNat 8 v).toNat = v := by
        rw [BitVec.toNat_ofNat]
        omega
      obtain ⟨from12, below14⟩ := code
      interval_cases i <;>
        (obtain ⟨small, ⟨⟩⟩ := Option.ite_none_right_eq_some.mp h; simp [ConfigFields.values, octet small])
    · obtain ⟨from14, below16⟩ := flag
      interval_cases i <;>
        (obtain ⟨b, known, rfl⟩ := Option.map_eq_some_iff.mp h; rw [boolOfNat_eq_some known]; rfl)

theorem ConfigFields.put_get {c d : ConfigFields} {i v : Nat} (hi : i < 24) (h : c.put i v = some d) :
    d.get i = v ∧ ∀ j < 24, j ≠ i → d.get j = c.get j := by
  have get {j : Nat} (hj : j < 24) : some (d.get j) = (c.values.set i v)[j]? := by
    rw [← ConfigFields.put_values hi h, d.getElem?_values hj]
  refine ⟨?_, fun j hj other => ?_⟩
  · have := get hi
    rwa [List.getElem?_set_self (by rw [c.length_values]; exact hi), Option.some_inj] at this
  · have := get hj
    rwa [List.getElem?_set_ne other.symm, c.getElem?_values hj, Option.some_inj] at this

/-! ## WRITE (R182) -/

/-- R33: a WRITE that an entry takes answers what the object's block decides. -/
theorem State.answer_write_taken {s t : State} {h : ReqHeader} {e : Station} {w : ObjWrite} {body : List Octet}
    (takes : s.Takes h kindWrite e) (does : s.takeWrite w = (body, t)) :
    answer s (s.request h s.lineTime (.write w)) = .next (t.answered h .reply (.fixed body)).settle := by
  rw [State.answer_request_taken (r := .write w) takes rfl]
  unfold State.perform
  simp only [does]
  rfl

theorem exec_write {s : State} {object index : Octet} {value : List Octet} {w : ObjWrite}
    (parsed : parseWrite object index value = some w) (h : ReqHeader) :
    exec (.write h object index value) s = answer s (s.request h s.lineTime (.write w)) := by
  simp only [exec, execWrite, parsed]

/-- Settles O35: what the value parses as, object by object. -/
theorem writeNamesItsObject : Obligations.WriteNamesItsObject := by
  refine ⟨rfl, fun s h object index value e takes => ⟨fun unnamed => ?_, fun named => ⟨fun readOnly => ?_, fun wrong => ?_,
    ?config, ?address, ?channel, ?trigger, ?fault, ?captureConfig⟩⟩⟩
  · rw [exec_write (parseWrite_unnamed unnamed value)]
    refine State.answer_write_taken takes ?_
    rw [State.takeWrite, (objectExists_eq_false_iff object index).mpr unnamed]
    rfl
  · have plain : parseWrite object index value = some (.plain object index) := by
      rcases readOnly with ⟨rfl, length⟩ | ⟨rfl, length⟩ | ⟨rfl, length⟩ <;> exact parseWrite_plain named rfl length
    rw [exec_write plain]
    refine State.answer_write_taken takes ?_
    rw [State.takeWrite, (objectExists_iff object index).mpr named]
    rfl
  · have formless := parseWrite_wrongLength (value := value) named (by rwa [writeLength_eq named])
    simp [exec, execWrite, formless]
  case config =>
    rintro a b rfl rfl
    exact exec_write (parseWrite_config named a b) h
  case address =>
    rintro a m n f rfl rfl
    exact exec_write (parseWrite_address named a m n f) h
  case channel =>
    rintro f l a p q r rfl rfl
    exact exec_write (parseWrite_channel named f l a p q r) h
  case trigger =>
    rintro f l g c a p q r d rfl rfl
    exact exec_write (parseWrite_trigger named f l g c a p q r d) h
  case fault =>
    rintro m rfl rfl
    exact exec_write (parseWrite_fault named m) h
  case captureConfig =>
    rintro n a b c d e' f g i t rfl rfl
    exact exec_write (parseWrite_captureConfig named n a b c d e' f g i t) h

/-! ## CONFIG (R186, R187) -/

theorem State.writeConfig_beyond {s : State} {index : Octet} (beyond : 24 ≤ index.toNat) (value : Half) :
    s.writeConfig index value = (.noObject, s) :=
  if_pos beyond

theorem State.writeConfig_refused {s : State} {index : Octet} {value : Half} (within : index.toNat < 24)
    (refused : s.cfg.put index.toNat value.toNat = none) : s.writeConfig index value = (.range, s) := by
  rw [State.writeConfig, if_neg (Nat.not_le.mpr within), refused]

theorem State.writeConfig_put {s : State} {index : Octet} {value : Half} {c : ConfigFields} (within : index.toNat < 24)
    (put : s.cfg.put index.toNat value.toNat = some c) : s.writeConfig index value =
      if index = 0 then
        if s.sched.state = .halted then
          (.ok, if c.slotExp = s.cfg.slotExp then s.setCfg c else (s.setCfg c).slotMoved)
        else (.state, s)
      else if index = 10 then (.ok, (s.setCfg c).evalLineErrors)
      else (.ok, s.setCfg c) := by
  rw [State.writeConfig, if_neg (Nat.not_le.mpr within), put]

/-- R78: in HALTED a time step event only takes the new slot number. -/
theorem State.slotMoved_halted {s : State} (state : s.sched.state = .halted) :
    s.slotMoved = { s with sched := { s.sched with curSlot := s.slotNow } } := by
  unfold State.slotMoved
  split
  case isTrue same => rw [same]
  case isFalse => simp [State.timeStep, State.setSlot, State.setSched, state]

theorem ConfigFields.put_slotExp {c d : ConfigFields} {v : Nat} (put : c.put 0 v = some d) :
    d = { c with slotExp := v } := by
  obtain ⟨-, same⟩ := Option.ite_none_right_eq_some.mp put
  cases same
  rfl

/-- Settles O36: no such index, out of range, or the field's own way of being written. -/
theorem writeConfigSetsOneField : Obligations.WriteConfigSetsOneField := by
  intro s h index value e takes
  have answers {r : MgmtResult} {t : State} (does : s.writeConfig index value = (r, t)) :
      exec (.writeConfig h index value) s = .next (t.resulted h r).settle :=
    State.answer_write_taken (w := .config index value) takes (by rw [State.takeWrite, does])
  refine ⟨fun beyond => answers (State.writeConfig_beyond beyond value), fun within outside => ?_, fun inside => ?_, rfl,
    rfl⟩
  · refine answers (State.writeConfig_refused within (Option.eq_none_iff_forall_ne_some.mpr fun c put => outside ?_))
    exact (s.cfg.put_isSome_iff within _).mp ⟨c, put⟩
  · have within : index.toNat < 24 := by
      unfold ConfigRange at inside
      omega
    obtain ⟨c, put⟩ := (s.cfg.put_isSome_iff within _).mpr inside
    have does := State.writeConfig_put within put
    refine ⟨c, ConfigFields.put_get within put, fun slotExp limit => ?_, fun limit => ?_, fun slotExp state same => ?_,
      fun slotExp state moved => ?_, fun slotExp state => ?_⟩
    · exact answers (by rw [does, if_neg slotExp, if_neg limit]; rfl)
    · exact answers (by rw [does, if_neg (by rw [limit]; decide), if_pos limit]; rfl)
    · rw [slotExp] at put
      have is := ConfigFields.put_slotExp put
      rw [same] at is
      refine answers (t := s) ?_
      rw [does, if_pos slotExp, if_pos state, is, if_pos rfl]
      rfl
    · rw [slotExp] at put
      have is := ConfigFields.put_slotExp put
      refine answers ?_
      rw [does, if_pos slotExp, if_pos state, if_neg (by rw [is]; exact moved), State.slotMoved_halted (by exact state), is]
      rfl
    · exact answers (by rw [does, if_pos slotExp, if_neg state])

/-! ## ADDRESS (R184) -/

theorem duplicateAddress_iff (t : Vector (Option Station) 8) (n : Fin 8) (a : Octet) :
    duplicateAddress t n a = true ↔ ∃ m : Fin 8, m ≠ n ∧ ∃ g, t[m] = some g ∧ g.address = a := by
  unfold duplicateAddress
  rw [List.any_eq_true]
  constructor
  · rintro ⟨m, -, other⟩
    rw [Bool.and_eq_true, bne_iff_ne] at other
    obtain ⟨other, holds⟩ := other
    split at holds
    · exact ⟨m, other, _, ‹_›, beq_iff_eq.mp holds⟩
    · cases holds
  · rintro ⟨m, other, g, held, rfl⟩
    exact ⟨m, List.mem_finRange m, by simp [other, held]⟩

theorem AddressValue.entry_isSome (v : Sys2Proof.AddressValue) :
    (AddressValue.entry v).isSome = !v.flags.getLsbD 7 := by
  unfold AddressValue.entry
  split <;> simp_all

/-- Settles O37: the three tests in order. -/
theorem writeAddressKeepsTheRules : Obligations.WriteAddressKeepsTheRules := by
  intro s h n v e takes
  have answers {r : MgmtResult} {t : State} (does : s.writeAddress n v = (r, t)) :
      exec (.writeAddress h n v) s = .next (t.resulted h r).settle :=
    State.answer_write_taken (w := .address n v) takes (by rw [State.takeWrite, does])
  have range : ((AddressValue.entry v).isSome && (decide (v.address = 0x00) || decide (v.address = 0xFF))) = true ↔
      v.flags.getLsbD 7 = false ∧ (v.address = 0x00 ∨ v.address = 0xFF) := by
    simp [AddressValue.entry_isSome]
  have duplicate : ((AddressValue.entry v).isSome && duplicateAddress s.addr n v.address) = true ↔
      v.flags.getLsbD 7 = false ∧ ∃ m : Fin 8, m ≠ n ∧ ∃ g, s.addr[m] = some g ∧ g.address = v.address := by
    rw [Bool.and_eq_true, duplicateAddress_iff, AddressValue.entry_isSome, Bool.not_eq_true']
  have lockout : (!hasManagement (s.addr.set n (AddressValue.entry v))) = true ↔
      ∀ (m : Fin 8) g, (s.addr.set n (AddressValue.entry v))[m] = some g → g.mgmt = false := by
    rw [Bool.not_eq_true', ← Bool.not_eq_true, hasManagement_iff]
    simp only [not_exists, not_and, Bool.not_eq_true]
  refine ⟨fun out => ?_, fun inside taken => ?_, fun inside free locked => ?_, fun inside free managed => ?_⟩
  · exact answers (if_pos (range.mpr out))
  · exact answers ((if_neg (mt range.mp inside)).trans (if_pos (duplicate.mpr taken)))
  · exact answers ((if_neg (mt range.mp inside)).trans ((if_neg (mt duplicate.mp free)).trans (if_pos (lockout.mpr locked))))
  · exact answers ((if_neg (mt range.mp inside)).trans ((if_neg (mt duplicate.mp free)).trans
      (if_neg (mt lockout.mp managed))))

/-! ## Codes (section 11.5) -/

theorem SafeLevel.ofCode_eq (c : Octet) : SafeLevel.ofCode c =
    if c.toNat ≤ 2 then some (if c = 0 then .inactive else if c = 1 then .active else .hold) else none := by
  unfold SafeLevel.ofCode
  simp only [← BitVec.toNat_inj, BitVec.reduceToNat]
  split_ifs <;> first | rfl | omega

theorem EdgeSelect.ofCode_eq (c : Octet) : EdgeSelect.ofCode c =
    if c = 0 ∨ 4 ≤ c.toNat then none else some (if c = 1 then .rising else if c = 2 then .falling else .both) := by
  unfold EdgeSelect.ofCode
  simp only [← BitVec.toNat_inj, BitVec.reduceToNat]
  split_ifs <;> first | rfl | omega

theorem ActionKind.ofCode_eq (c : Octet) : ActionKind.ofCode c =
    if c = 0 ∨ 5 ≤ c.toNat then none
    else some (if c = 1 then .set else if c = 2 then .clear else if c = 3 then .toggle else .pulse) := by
  unfold ActionKind.ofCode
  simp only [← BitVec.toNat_inj, BitVec.reduceToNat]
  split_ifs <;> first | rfl | omega

/-! ## CHANNEL (R138) -/

theorem State.writeChannel_range {s : State} {v : ChannelValue} (n : Fin 16)
    (bad : 2 < v.safeLevel.toNat ∨ v.maxPulse = 0) : s.writeChannel n v = (.range, s) := by
  rw [State.writeChannel, SafeLevel.ofCode_eq]
  by_cases level : v.safeLevel.toNat ≤ 2
  · simp only [if_pos level, if_pos (bad.resolve_left (Nat.not_lt.mpr level))]
  · rw [if_neg level]

/-- The whole entry is replaced; the channel is switched off when the entry goes from on to off. -/
theorem State.writeChannel_ok {s : State} {v : ChannelValue} (n : Fin 16) (level : v.safeLevel.toNat ≤ 2)
    (pulse : v.maxPulse ≠ 0) : s.writeChannel n v = (.ok, s.setOut
      { table := s.out.table.set n
          { enabled := v.flags.getLsbD 0, invert := v.flags.getLsbD 1
            safeLevel := if v.safeLevel = 0 then .inactive else if v.safeLevel = 1 then .active else .hold
            actionMask := v.actionMask.setWidth 4, maxPulse := v.maxPulse }
        chans := s.out.chans.set n (if (s.out.table[n].enabled && !v.flags.getLsbD 0) = true
          then { s.out.chans[n] with level := false, pulseEnd := none } else s.out.chans[n]) }) := by
  rw [State.writeChannel, SafeLevel.ofCode_eq]
  simp only [if_pos level, if_neg pulse]

/-- Settles O38: out of range, from on to off, and the other three cases. -/
theorem writeChannelReplacesTheEntry : Obligations.WriteChannelReplacesTheEntry := by
  intro s h n v e takes
  have answers {r : MgmtResult} {t : State} (does : s.writeChannel n v = (r, t)) :
      exec (.writeChannel h n v) s = .next (t.resulted h r).settle :=
    State.answer_write_taken (w := .channel n v) takes (by rw [State.takeWrite, does])
  refine ⟨fun bad => answers (State.writeChannel_range n bad), fun level pulse => ⟨fun on off => ?_, fun kept => ?_⟩⟩
  · have does := State.writeChannel_ok (s := s) n level pulse
    have switched : (s.out.table[n].enabled && !v.flags.getLsbD 0) = true := by
      rw [on, off]
      rfl
    rw [if_pos switched] at does
    exact answers does
  · have does := State.writeChannel_ok (s := s) n level pulse
    have stays : ¬ (s.out.table[n].enabled && !v.flags.getLsbD 0) = true := by
      rcases kept with off | on
      · rw [off, Bool.false_and]
        decide
      · rw [on, Bool.not_true, Bool.and_false]
        decide
    rw [if_neg stays, Fin.getElem_fin, Vector.set_getElem_self] at does
    exact answers does

/-! ## TRIGGER and CAPTURE_CONFIG (R141, R154, R183) -/

theorem TriggerValue.entry_eq (v : Sys2Proof.TriggerValue) : TriggerValue.entry v =
    if 8 ≤ v.line.toNat ∨ v.edge = 0 ∨ 4 ≤ v.edge.toNat ∨ 16 ≤ v.channel.toNat ∨ v.action = 0 ∨
      5 ≤ v.action.toNat ∨ v.width = 0 ∨ v.delay = 0 then none
    else some
      { enabled := v.flags.getLsbD 0, oneShot := v.flags.getLsbD 1, report := v.flags.getLsbD 2
        line := Fin.ofNat 8 v.line.toNat, channel := Fin.ofNat 16 v.channel.toNat
        edge := if v.edge = 1 then .rising else if v.edge = 2 then .falling else .both
        action := if v.action = 1 then .set else if v.action = 2 then .clear
                  else if v.action = 3 then .toggle else .pulse
        width := v.width, delay := v.delay } := by
  rw [TriggerValue.entry, EdgeSelect.ofCode_eq, ActionKind.ofCode_eq]
  by_cases edge : v.edge = 0 ∨ 4 ≤ v.edge.toNat
  · rw [if_pos edge]
    exact (if_pos (by tauto)).symm
  by_cases action : v.action = 0 ∨ 5 ≤ v.action.toNat
  · rw [if_neg edge, if_pos action]
    exact (if_pos (by tauto)).symm
  · rw [if_neg edge, if_neg action]
    exact if_congr (by tauto) rfl rfl

theorem all_edges_iff (edges : Vector Octet 8) : (edges.toList.all fun c => (EdgeSelect.ofCode c).isSome) = true ↔
    ¬ ∃ n : Fin 8, edges[n] = 0 ∨ 4 ≤ edges[n].toNat := by
  rw [List.all_eq_true]
  constructor
  · rintro good ⟨n, bad⟩
    have := good edges[n] (by simp)
    rw [EdgeSelect.ofCode_eq, if_pos bad] at this
    cases this
  · intro good c held
    obtain ⟨i, hi, rfl⟩ := List.mem_iff_getElem.mp held
    rw [Vector.length_toList] at hi
    have inside : ¬ (edges[i] = 0 ∨ 4 ≤ edges[i].toNat) := fun bad => good ⟨⟨i, hi⟩, bad⟩
    rw [Vector.getElem_toList, EdgeSelect.ofCode_eq, if_neg inside]
    rfl

/-- Settles O39: each value in its ranges or not. -/
theorem writeTriggerAndCaptureConfig : Obligations.WriteTriggerAndCaptureConfig := by
  intro s h e takes
  refine ⟨fun n v => ?_, fun v => ?_⟩
  · have answers {r : MgmtResult} {t : State} (does : s.writeTrigger n v = (r, t)) :
        exec (.writeTrigger h n v) s = .next (t.resulted h r).settle :=
      State.answer_write_taken (w := .trigger n v) takes (by rw [State.takeWrite, does])
    refine ⟨fun bad => answers ?_, fun good => answers ?_⟩
    · rw [State.writeTrigger, TriggerValue.entry_eq, if_pos bad]
    · rw [State.writeTrigger, TriggerValue.entry_eq, if_neg good]
      rfl
  · have answers {r : MgmtResult} {t : State} (does : s.writeCaptureConfig v = (r, t)) :
        exec (.writeCaptureConfig h v) s = .next (t.resulted h r).settle :=
      State.answer_write_taken (w := .captureConfig v) takes (by rw [State.takeWrite, does])
    refine ⟨fun bad => answers (if_neg (mt (all_edges_iff v.edges).mp (not_not.mpr bad))), fun good => answers ?_⟩
    have edges : (v.edges.map fun c => (EdgeSelect.ofCode c).getD .rising) =
        v.edges.map fun c => if c = 1 then .rising else if c = 2 then .falling else .both := by
      refine Vector.ext fun i hi => ?_
      have inside : ¬ (v.edges[i] = 0 ∨ 4 ≤ v.edges[i].toNat) := fun bad => good ⟨⟨i, hi⟩, bad⟩
      rw [Vector.getElem_map, Vector.getElem_map, EdgeSelect.ofCode_eq, if_neg inside]
      rfl
    rw [State.writeCaptureConfig, if_pos ((all_edges_iff v.edges).mpr good), edges]
    rfl

/-! ## FAULT (R166) -/

/-- Settles O40: the flags left are the model's, read bit by bit. -/
theorem writeFaultAcknowledges : Obligations.WriteFaultAcknowledges := by
  intro s h mask e takes
  refine ⟨(s.faults.acknowledge mask).latched, fun k => ?_, ?_, ?_⟩
  · have small : k.val < 8 := k.isLt
    simp [FaultSet.acknowledge, small]
  · exact State.answer_write_taken (w := .fault mask) takes rfl
  · simp [State.stat, takes.1]

end Sys2Proof.Machine
end

section
/-! Statements about READ and POLL: the octets of numbers and of the objects, and the acknowledgement of captures. -/

namespace Sys2Proof.Machine

/-! ## Numbers as octets -/

/-- The `n` low octets of a number, high octet first, in plain arithmetic. -/
def octetsHigh (n v : Nat) : List Octet := (List.range n).map fun i => BitVec.ofNat 8 (v / 256 ^ (n - 1 - i))

theorem div_pow_mod_congr {n k a b : Nat} (h : a % 256 ^ n = b % 256 ^ n) (hk : k < n) :
    a / 256 ^ k % 256 = b / 256 ^ k % 256 := by
  have divides : 256 ^ k * 256 ∣ 256 ^ n := pow_succ 256 k ▸ pow_dvd_pow 256 hk
  rw [← Nat.mod_mul_right_div_self, ← Nat.mod_mul_right_div_self, ← Nat.mod_mod_of_dvd a divides, h,
    Nat.mod_mod_of_dvd b divides]

/-- Only the low `n` octets count. -/
theorem octetsOf_eq_high {w n m : Nat} {v : BitVec w} (h : v.toNat % 256 ^ n = m % 256 ^ n) :
    octetsOf n v = octetsHigh n m := by
  refine List.map_congr_left fun i hi => ?_
  have small : n - 1 - i < n := by have := List.mem_range.mp hi; omega
  refine BitVec.eq_of_toNat_eq ?_
  have shift : v.toNat >>> (8 * (n - 1 - i)) = v.toNat / 256 ^ (n - 1 - i) := by
    rw [Nat.shiftRight_eq_div_pow, Nat.pow_mul]
  rw [BitVec.toNat_setWidth, BitVec.toNat_ushiftRight, BitVec.toNat_ofNat, shift]
  exact div_pow_mod_congr h small

theorem octetsOf_toNat {w : Nat} (n : Nat) (v : BitVec w) : octetsOf n v = octetsHigh n v.toNat := octetsOf_eq_high rfl

theorem octetsOfNat_eq (n v : Nat) : octetsOfNat n v = octetsHigh n v := by
  refine octetsOf_eq_high ?_
  rw [BitVec.toNat_ofNat, Nat.pow_mul]
  exact Nat.mod_mod _ _

theorem flagOctet_two (a b : Bool) :
    flagOctet [a, b] = BitVec.ofNat 8 ((if a then 1 else 0) + (if b then 2 else 0)) := by
  cases a <;> cases b <;> rfl

theorem flagOctet_three (a b c : Bool) :
    flagOctet [a, b, c] = BitVec.ofNat 8 ((if a then 1 else 0) + (if b then 2 else 0) + (if c then 4 else 0)) := by
  cases a <;> cases b <;> cases c <;> rfl

theorem toNat_ofNat_octet {n : Nat} (h : n < 256) : (BitVec.ofNat 8 n).toNat = n := by
  rw [BitVec.toNat_ofNat]
  exact Nat.mod_eq_of_lt h

theorem index_eight (n : Fin 8) : Fin.ofNat 8 (BitVec.ofNat 8 n.val).toNat = n := by
  rw [toNat_ofNat_octet (by omega)]
  exact Fin.ofNat_val_eq_self n

theorem index_sixteen (n : Fin 16) : Fin.ofNat 16 (BitVec.ofNat 8 n.val).toNat = n := by
  rw [toNat_ofNat_octet (by omega)]
  exact Fin.ofNat_val_eq_self n

/-! ## The values of the objects (section 11.5), with any way of writing the codes -/

theorem State.statusValue_eq {s : State} {state sync reason rate : Octet} (hstate : state = s.sched.state.code)
    (hsync : sync = s.time.sync.code) (hreason : reason = s.rx.lastDiscard.code) (hrate : rate = s.rate.code) :
    s.statusValue = [state, sync] ++ octetsHigh 2 s.sched.free.length ++
      [BitVec.ofNat 8 s.cap.ring.length, BitVec.ofNat 8 s.notices.queue.length, BitVec.ofNat 8 s.port.replies.length,
       BitVec.ofNat 8 s.rx.freeBuffers, BitVec.ofNat 8 s.rx.badCount, reason, rate] ++
      octetsHigh 4 s.sched.curSlot.toNat ++ octetsHigh 6 s.lineTime.toNat ++ [s.owner] := by
  rw [hstate, hsync, hreason, hrate, ← octetsOfNat_eq, ← octetsOf_toNat, ← octetsOf_toNat]
  rfl

theorem ConfigFields.values_eq {c : ConfigFields} {rate abnormal notices : Nat} {response : Response → Nat}
    (hrate : rate = c.lineRate.code.toNat) (habnormal : abnormal = if c.reportAbnormal then 1 else 0)
    (hnotices : notices = if c.faultNotices then 1 else 0) (hresponse : ∀ r, response r = r.code) :
    [c.slotExp, c.lead, c.window, c.catchUpLimit, c.stepLimit, c.syncTimeout, c.holdoverLimit, c.linkDelay, rate,
      c.arbiterRatio, c.lineErrorLimit, c.replyHops, c.reportAddress.toNat, c.timeSource.toNat, abnormal, notices] ++
      c.responses.toList.map response = c.values := by
  rw [hrate, habnormal, hnotices, funext hresponse]
  rfl

theorem State.objectValue_config (s : State) {i : Nat} (hi : i < 24) :
    s.objectValue objConfig (BitVec.ofNat 8 i) = octetsHigh 2 (s.cfg.get i) := by
  show octetsOfNat 2 (s.cfg.get (BitVec.ofNat 8 i).toNat) = _
  rw [octetsOfNat_eq, toNat_ofNat_octet (by omega)]

theorem State.objectValue_address (s : State) (n : Fin 8) :
    s.objectValue objAddress (BitVec.ofNat 8 n.val) = addressOctets s.addr[n] := by
  show addressOctets s.addr[Fin.ofNat 8 (BitVec.ofNat 8 n.val).toNat] = _
  simp only [index_eight]

theorem addressOctets_some (e : Station) : addressOctets (some e) = [e.address] ++ octetsHigh 2 e.mask.toNat ++
    [BitVec.ofNat 8 ((if e.sched then 1 else 0) + (if e.capt then 2 else 0) + (if e.mgmt then 4 else 0))] := by
  rw [addressOctets, octetsOf_toNat, flagOctet_three]

theorem State.objectValue_channel (s : State) (n : Fin 16) {level : Octet} (hlevel : level = s.out.table[n].safeLevel.code) :
    s.objectValue objChannel (BitVec.ofNat 8 n.val) =
      [BitVec.ofNat 8 ((if s.out.table[n].enabled then 1 else 0) + (if s.out.table[n].invert then 2 else 0)), level,
       BitVec.ofNat 8 s.out.table[n].actionMask.toNat] ++ octetsHigh 3 s.out.table[n].maxPulse.toNat := by
  show s.out.table[Fin.ofNat 16 (BitVec.ofNat 8 n.val).toNat].octets = _
  simp only [index_sixteen]
  rw [ChannelEntry.octets, flagOctet_two, octetsOf_toNat, hlevel, BitVec.ofNat_toNat]

theorem State.objectValue_trigger (s : State) (n : Fin 8) {edge action : Octet}
    (hedge : edge = s.cap.triggers[n].edge.code) (haction : action = s.cap.triggers[n].action.code) :
    s.objectValue objTrigger (BitVec.ofNat 8 n.val) =
      [BitVec.ofNat 8 ((if s.cap.triggers[n].enabled then 1 else 0) + (if s.cap.triggers[n].oneShot then 2 else 0) +
         (if s.cap.triggers[n].report then 4 else 0)), BitVec.ofNat 8 s.cap.triggers[n].line.val, edge,
       BitVec.ofNat 8 s.cap.triggers[n].channel.val, action] ++ octetsHigh 3 s.cap.triggers[n].width.toNat ++
      [s.cap.triggers[n].delay] := by
  show s.cap.triggers[Fin.ofNat 8 (BitVec.ofNat 8 n.val).toNat].octets = _
  simp only [index_eight]
  rw [TriggerEntry.octets, flagOctet_three, octetsOf_toNat, hedge, haction]

/-- R140: the remaining ticks of a pulse, 0 from the instant of its expiry on. -/
theorem State.octetsOf_pulseRemaining (s : State) (n : Fin 16) {ticks : Nat}
    (h : (s.out.chans[n].pulseEnd = none ∧ ticks = 0) ∨ (∃ ends, s.out.chans[n].pulseEnd = some ends ∧
      ((s.At ends ∧ ticks = 0) ∨ (¬ s.At ends ∧ ticks = (ends - s.time.localCount).toNat)))) :
    octetsOf 3 (s.pulseRemaining n) = octetsHigh 3 ticks := by
  unfold State.pulseRemaining
  rcases h with ⟨off, rfl⟩ | ⟨ends, on, ⟨past, rfl⟩ | ⟨still, rfl⟩⟩
  · rw [off]
    exact octetsOf_toNat 3 _
  · simp only [on, (reached_iff s ends).mpr past]
    exact octetsOf_toNat 3 _
  · simp only [on, (reached_eq_false_iff s ends).mpr still]
    exact octetsOf_eq_high (by rw [if_neg Bool.false_ne_true, BitVec.toNat_setWidth]; exact Nat.mod_mod _ _)

theorem State.objectValue_channelState (s : State) (n : Fin 16) {ticks : Nat}
    (remaining : octetsOf 3 (s.pulseRemaining n) = octetsHigh 3 ticks) :
    s.objectValue objChannelState (BitVec.ofNat 8 n.val) =
      [BitVec.ofNat 8 ((if s.out.chans[n].level then 1 else 0) + (if s.out.chans[n].pulseEnd.isSome then 2 else 0) +
        (if s.out.chans[n].lastTag.isSome then 4 else 0))] ++ octetsHigh 3 ticks ++
      octetsHigh 2 (s.out.chans[n].lastTag.getD 0).toNat ++
      octetsHigh 2 (s.sched.wheel.filter fun r => r.channel = n).length := by
  show s.channelStateValue (Fin.ofNat 16 (BitVec.ofNat 8 n.val).toNat) = _
  rw [index_sixteen, State.channelStateValue, flagOctet_three, remaining, octetsOf_toNat, octetsOfNat_eq]
  rfl

theorem State.objectValue_captureConfig (s : State) {edge : EdgeSelect → Octet} (hedge : ∀ e, edge e = e.code) :
    s.objectValue objCaptureConfig 0 = [s.cap.enable] ++ s.cap.edges.toList.map edge ++ [s.cap.filterTime] := by
  rw [funext hedge]
  rfl

theorem State.answer_read_taken {s : State} {h : ReqHeader} {e : Station} (takes : s.Takes h kindRead e)
    (object index : Octet) : exec (.read h object index) s = .next (s.answered h .reply
      (.read (if objectExists object index then .ok else .noObject) object index)).settle :=
  State.answer_request_taken (r := .read object index) takes rfl s.lineTime

/-- Settles O29: the descriptor by whether the object exists, then the objects one by one. -/
theorem readAnswers : Obligations.ReadAnswers := by
  refine ⟨fun s h object index e takes => ⟨fun named => ?_, fun unnamed => ?_⟩, fun s => ⟨rfl, ?status, ?config,
    ?empty, ?address, fun n => ?channel, fun n => ?trigger, rfl, fun n ticks remaining => ?channelState, ?captureConfig⟩⟩
  · rw [State.answer_read_taken takes, (objectExists_iff object index).mpr named]
    rfl
  · rw [State.answer_read_taken takes, (objectExists_eq_false_iff object index).mpr unnamed]
    rfl
  case status =>
    exact State.statusValue_eq (by cases s.sched.state <;> rfl) (by cases s.time.sync <;> rfl)
      (by cases s.rx.lastDiscard <;> rfl) (by cases s.rate <;> rfl)
  case config =>
    intro i v hi held
    have value : some v = some (s.cfg.get i) := by
      rw [← held, ← s.cfg.getElem?_values hi]
      exact congrArg (fun l => l[i]?)
        (ConfigFields.values_eq (by cases s.cfg.lineRate <;> rfl) rfl rfl fun r => by cases r <;> rfl)
    rw [Option.some_inj.mp value]
    exact s.objectValue_config hi
  case empty => exact fun n empty => by rw [State.objectValue_address, empty]; rfl
  case address => exact fun n e held => by rw [State.objectValue_address, held]; exact addressOctets_some e
  case channel => exact s.objectValue_channel n (by cases s.out.table[n].safeLevel <;> rfl)
  case trigger =>
    exact s.objectValue_trigger n (by cases s.cap.triggers[n].edge <;> rfl) (by cases s.cap.triggers[n].action <;> rfl)
  case channelState => exact s.objectValue_channelState n (s.octetsOf_pulseRemaining n remaining)
  case captureConfig => exact s.objectValue_captureConfig fun e => by cases e <;> rfl

/-! ## POLL (R148, R149) -/

theorem CaptureUnit.position_eq {c : CaptureUnit} {oldest : CaptureRecord} {rest : List CaptureRecord}
    (ring : c.ring = oldest :: rest) (seq : Half) : c.position seq =
      if (seq - oldest.seq).toNat < c.ring.length then some (seq - oldest.seq).toNat else none := by
  simp [CaptureUnit.position, ring]

theorem CaptureUnit.position_nil {c : CaptureUnit} (ring : c.ring = []) (seq : Half) : c.position seq = none := by
  simp [CaptureUnit.position, ring]

/-- R148: the reported span by positions. -/
theorem CaptureUnit.inReportedSpan_iff (c : CaptureUnit) (seq : Half) : c.InReportedSpan seq ↔
    ∃ top p, c.highest.bind c.position = some top ∧ c.position seq = some p ∧ p ≤ top := by
  cases ring : c.ring with
  | nil => simp [CaptureUnit.InReportedSpan, ring, CaptureUnit.position_nil ring]
  | cons oldest rest =>
    cases highest : c.highest with
    | none => simp [CaptureUnit.InReportedSpan, highest]
    | some g =>
      simp only [CaptureUnit.InReportedSpan, highest, ring, List.head?_cons, Option.mem_def, Option.some.injEq,
        exists_eq_left', Option.bind_some, CaptureUnit.position_eq ring]
      constructor
      · rintro ⟨inside, below⟩
        exact ⟨_, _, if_pos inside, if_pos (Nat.lt_of_le_of_lt below inside), below⟩
      · rintro ⟨top, p, isTop, isP, below⟩
        obtain ⟨inside, ⟨⟩⟩ := Option.ite_none_right_eq_some.mp isTop
        obtain ⟨-, ⟨⟩⟩ := Option.ite_none_right_eq_some.mp isP
        exact ⟨inside, below⟩

theorem CaptureUnit.acknowledge_inside {c : CaptureUnit} {oldest : CaptureRecord} {rest : List CaptureRecord}
    {ackValid : Octet} {ackSeq : Half} (ring : c.ring = oldest :: rest) (valid : ackValid.getLsbD 0 = true)
    (span : c.InReportedSpan ackSeq) :
    c.acknowledge ackValid ackSeq = { c with ring := c.ring.drop ((ackSeq - oldest.seq).toNat + 1) } := by
  obtain ⟨top, p, isTop, isP, below⟩ := (c.inReportedSpan_iff ackSeq).mp span
  rw [CaptureUnit.acknowledge, if_pos valid, isTop, isP]
  rw [CaptureUnit.position_eq ring] at isP
  obtain ⟨-, ⟨⟩⟩ := Option.ite_none_right_eq_some.mp isP
  exact if_pos below

theorem CaptureUnit.acknowledge_outside {c : CaptureUnit} {ackValid : Octet} {ackSeq : Half}
    (outside : ackValid.getLsbD 0 = false ∨ ¬ c.InReportedSpan ackSeq) : c.acknowledge ackValid ackSeq = c := by
  unfold CaptureUnit.acknowledge
  split
  case isFalse => rfl
  case isTrue valid =>
    split
    case h_2 => rfl
    case h_1 top p isTop isP =>
      refine if_neg fun below => outside.elim (fun off => ?_) fun out => ?_
      · exact absurd valid (by rw [off]; decide)
      · exact out ((c.inReportedSpan_iff ackSeq).mpr ⟨top, p, isTop, isP, below⟩)

/-- Settles O30: AckSeq in the reported span or not. -/
theorem pollAcknowledges : Obligations.PollAcknowledges := by
  intro s h ackValid ackSeq maxCount e takes some few
  have answers := State.answer_request_taken (r := .poll ackValid ackSeq maxCount) takes
    ((wellFormed_poll_iff ..).mpr ⟨some, few⟩) s.lineTime
  have acknowledged {c : CaptureUnit} (is : s.cap.acknowledge ackValid ackSeq = c) :
      exec (.poll h ackValid ackSeq maxCount) s =
        .next ({ s with cap := c }.answered h .report (.report maxCount)).settle := by
    rw [← is]
    exact answers
  exact ⟨fun oldest rest ring valid span => acknowledged (CaptureUnit.acknowledge_inside ring valid span),
    fun outside => acknowledged (CaptureUnit.acknowledge_outside outside)⟩

end Sys2Proof.Machine
end

section
/-! Statements about RESTART (sections 2.4 and 10.6): the mark, and the moment of effect. -/

namespace Sys2Proof.Machine

/-! ## The restart mark (R39) -/

theorem markLast_append (q : List Forwarded) (f : Forwarded) :
    markLast (q ++ [f]) = q ++ [{ f with restartMark := true }] := by
  induction q using markLast.induct with
  | case1 => rfl
  | case2 g => rfl
  | case3 g k rest ih => simpa [markLast] using ih

/-- A buffer taken and returned. -/
theorem releaseBuffer_taken {s : State} (free : 0 < s.rx.freeBuffers) :
    State.releaseBuffer { s with rx := { s.rx with freeBuffers := s.rx.freeBuffers - 1 } } = s := by
  have whole : s.rx.freeBuffers - 1 + 1 = s.rx.freeBuffers := by omega
  simp [State.releaseBuffer, State.setRx, whole]

/-- The frame that RESTART brings, as it comes to the Classifier (log 7). -/
def restartReceived (s : State) (h : ReqHeader) (hops : Octet) : Received :=
  { frame := restartFrame h hops, arrival := s.lineTime, arrivalOffset := s.time.offset }

/-- The state with one free buffer fewer, which RESTART's frame holds. -/
def State.bufferTaken (s : State) : State := { s with rx := { s.rx with freeBuffers := s.rx.freeBuffers - 1 } }

/-- RESTART's frame as it stands in the Forward Queue. -/
def restartForwarded (s : State) (h : ReqHeader) (hops mark : Octet) (marked : Bool) : Forwarded :=
  { frame := { dest := h.dest, src := h.src, kind := 0x32, seq := h.seq, hops := hops - 1, mark := mark, payload := [6] }
    arrival := s.lineTime, arrivalOffset := s.time.offset, restartMark := marked }

/-- The reply to RESTART (R39). -/
def restartReplyDesc (h : ReqHeader) (marked : Bool) : ReplyDesc :=
  { kind := .reply, dest := h.src, src := h.dest, seq := h.seq, body := .fixed [0], restartMark := marked,
    restartReply := true }

section Restart

variable {s : State} {h : ReqHeader} {hops : Octet}

theorem exec_restart_full (full : s.rx.freeBuffers = 0) : exec (.restart h hops) s = .next s :=
  (congrArg (answer s) (if_pos full)).trans (answer_self s)

theorem exec_restart (up : s.resetHeld = false) (free : 0 < s.rx.freeBuffers) :
    exec (.restart h hops) s = .next (s.bufferTaken.classify (restartReceived s h hops)).settle :=
  (answer_up up).trans (congrArg Host.Outcome.next (if_neg (Nat.pos_iff_ne_zero.mp free)))

theorem dispose_restart_forward (hopping : hops ≠ 0) (mark : Octet) : s.bufferTaken.dispose (restartReceived s h hops) mark =
    { s.bufferTaken with port := { s.port with forward := s.port.forward ++ [restartForwarded s h hops mark false] } } :=
  if_neg hopping

theorem dispose_restart_free (still : hops = 0) (free : 0 < s.rx.freeBuffers) (mark : Octet) :
    s.bufferTaken.dispose (restartReceived s h hops) mark = s :=
  (if_pos still).trans (releaseBuffer_taken free)

theorem classify_restart_broadcast (dest : h.dest = 0xFF) : s.bufferTaken.classify (restartReceived s h hops) =
    (s.bufferTaken.dispose (restartReceived s h hops) markClear).broadcast h.src hops .restart :=
  State.classify_control (s := s.bufferTaken) (f := restartReceived s h hops) (c := .restart)
    (fun strange => absurd strange.1 (by decide : ¬ 0x80 ≤ kindControl.toNat)) dest rfl rfl

theorem classify_restart_taken {e : Station} (takes : s.Takes h kindControl e) :
    s.bufferTaken.classify (restartReceived s h hops) =
      (s.bufferTaken.dispose (restartReceived s h hops) markTaken).takeRestart h hops :=
  State.classify_taken (s := s.bufferTaken) (f := restartReceived s h hops) (r := .control .restart)
    (fun strange => absurd strange.1 (by decide : ¬ 0x80 ≤ kindControl.toNat)) takes.2.1 takes.2.2.1
    (State.verdict_takes (s := s.bufferTaken) (h := h) (r := .control .restart) takes rfl)

theorem dispose_markHeld (mark : Octet) {restart : Bool} (unheld : restart = true ↔ ¬ s.marks ≠ 0) :
    (s.bufferTaken.dispose (restartReceived s h hops) mark).markHeld = !restart := by
  have same : (s.bufferTaken.dispose (restartReceived s h hops) mark).marks = s.marks := State.dispose_marks ..
  have held := State.markHeld_eq_false_iff (s.bufferTaken.dispose (restartReceived s h hops) mark)
  rw [same, ← not_not (a := s.marks = 0), ← Ne, ← unheld] at held
  cases restart <;> simpa using held

theorem State.takeRestart_hopping {t : State} {restart : Bool} (hopping : hops ≠ 0) (held : t.markHeld = !restart) :
    t.takeRestart h hops = { t with port := { t.port with
      replies := restartReplyDesc h false :: t.port.replies,
      forward := if restart then markLast t.port.forward else t.port.forward } } := by
  have hopping : ¬ hops = 0#8 := hopping
  cases restart <;>
    simp [State.takeRestart, held, hopping, State.queueReplyFirst, State.setPort, restartReplyDesc, replyTo,
      MgmtResult.code]

theorem State.takeRestart_still {t : State} {restart : Bool} (still : hops = 0) (held : t.markHeld = !restart) :
    t.takeRestart h hops =
      { t with port := { t.port with replies := restartReplyDesc h restart :: t.port.replies } } := by
  cases restart <;>
    simp [State.takeRestart, held, still, State.queueReplyFirst, State.setPort, restartReplyDesc, replyTo,
      MgmtResult.code]

theorem State.takeBroadcastRestart_hopping {t : State} {restart : Bool} (hopping : hops ≠ 0)
    (held : t.markHeld = !restart) : t.takeBroadcastRestart hops = { t with port := { t.port with
      forward := if restart then markLast t.port.forward else t.port.forward } } := by
  have hopping : ¬ hops = 0#8 := hopping
  cases restart <;> simp [State.takeBroadcastRestart, held, hopping, State.setPort]

theorem State.takeBroadcastRestart_held {t : State} (held : t.markHeld = true) : t.takeBroadcastRestart hops = t :=
  if_pos held

theorem State.takeBroadcastRestart_sending {t : State} (still : hops = 0) (unheld : t.markHeld = false)
    (sending : (∃ octets doneAt, t.port.tx = .sendingForward octets doneAt) ∨
      ∃ octets doneAt m, t.port.tx = .sendingReply octets doneAt m) : t.takeBroadcastRestart hops = t.markSending := by
  rcases sending with ⟨octets, doneAt, tx⟩ | ⟨octets, doneAt, m, tx⟩ <;>
    simp [State.takeBroadcastRestart, unheld, still, tx]

theorem State.takeBroadcastRestart_quiet {t : State} (still : hops = 0) (unheld : t.markHeld = false)
    (quiet : t.port.tx = .idle ∨ ∃ ends, t.port.tx = .gap ends) : t.takeBroadcastRestart hops = t.restartEffect := by
  rcases quiet with tx | ⟨ends, tx⟩ <;> simp [State.takeBroadcastRestart, unheld, still, tx]

theorem State.broadcast_restart {t : State} {src : Octet} (authorised : t.authorised src = true) :
    t.broadcast src hops .restart = t.takeBroadcastRestart hops :=
  if_pos (by rw [authorised]; rfl)

/-- The frame marked or not, at the tail of the Forward Queue. -/
theorem markLast_restartForwarded (q : List Forwarded) (mark : Octet) (restart : Bool) :
    (if restart then markLast (q ++ [restartForwarded s h hops mark false]) else q ++ [restartForwarded s h hops mark false]) =
      q ++ [restartForwarded s h hops mark restart] := by
  cases restart
  · rfl
  · exact markLast_append q _

end Restart

/-- Settles O47: by the free buffers, then unicast or broadcast, by Hops and the mark held. -/
theorem restartIsMarked : Obligations.RestartIsMarked := by
  intro s h hops up
  refine ⟨exec_restart_full, fun free => ?_⟩
  have does := exec_restart (h := h) (hops := hops) up free
  have becomes {t : State} (is : s.bufferTaken.classify (restartReceived s h hops) = t) :
      exec (.restart h hops) s = .next t.settle := by rw [does, is]
  refine ⟨does, fun dest claimed other => ?foreign, fun e takes restart unheld => ?unicast,
    fun dest owner restart unheld => ?broadcast⟩
  case foreign =>
    have ignored (mark : Octet) : (s.bufferTaken.dispose (restartReceived s h hops) mark).authorised h.src = false := by
      rw [State.authorised_eq_false_iff, (s.bufferTaken.dispose_frame _ mark).2.2.1]
      exact ⟨claimed, other⟩
    have carried := (classify_restart_broadcast (s := s) (hops := hops) dest).trans
      (State.broadcast_ignored (.inr (ignored _)) hops)
    exact ⟨fun hopping => becomes (carried.trans (dispose_restart_forward hopping _)),
      fun still => becomes (carried.trans (dispose_restart_free still free _))⟩
  case unicast =>
    have taken := classify_restart_taken (hops := hops) takes
    have held := dispose_markHeld (h := h) (hops := hops) markTaken unheld
    refine ⟨fun hopping => becomes (taken.trans ?_), fun still => becomes (taken.trans ?_)⟩
    · rw [State.takeRestart_hopping hopping held, dispose_restart_forward hopping, markLast_restartForwarded]
      rfl
    · rw [State.takeRestart_still still held, dispose_restart_free still free]
      rfl
  case broadcast =>
    have authorised : (s.bufferTaken.dispose (restartReceived s h hops) markClear).authorised h.src = true := by
      rw [State.authorised_iff, (s.bufferTaken.dispose_frame _ markClear).2.2.1]
      exact owner
    have taken := (classify_restart_broadcast (s := s) (hops := hops) dest).trans (State.broadcast_restart authorised)
    have held := dispose_markHeld (h := h) (hops := hops) markClear unheld
    have stays (still : hops = 0) : s.bufferTaken.dispose (restartReceived s h hops) markClear = s :=
      dispose_restart_free still free markClear
    have unmarked (still : hops = 0) (none : ¬ s.marks ≠ 0) : s.markHeld = false :=
      s.markHeld_eq_false_iff.mpr (not_not.mp none)
    refine ⟨fun hopping => becomes (taken.trans ?_), fun still marked => becomes (taken.trans ?_),
      fun still none octets doneAt tx => becomes (taken.trans ?_),
      fun still none octets doneAt f rest tx forward => becomes (taken.trans ?_),
      fun still none quiet => becomes (taken.trans ?_)⟩
    · rw [State.takeBroadcastRestart_hopping hopping held, dispose_restart_forward hopping, markLast_restartForwarded]
      rfl
    · rw [stays still]
      exact State.takeBroadcastRestart_held (Bool.eq_true_of_not_eq_false (mt s.markHeld_eq_false_iff.mp marked))
    · rw [stays still, State.takeBroadcastRestart_sending still (unmarked still none) (.inr ⟨_, _, _, tx⟩)]
      simp [State.markSending, tx, State.setPort]
    · rw [stays still, State.takeBroadcastRestart_sending still (unmarked still none) (.inl ⟨_, _, tx⟩)]
      simp [State.markSending, tx, forward, State.setPort]
    · rw [stays still, State.takeBroadcastRestart_quiet still (unmarked still none) quiet]

/-! ## The moment of effect (R192) -/

/-- Returning the sent buffer and entering the gap do not matter to what RESTART leaves. -/
theorem State.restartEffect_after (s : State) : s.returnSentBuffer.enterGap.restartEffect = s.restartEffect := by
  unfold State.returnSentBuffer
  split
  · split <;> rfl
  all_goals rfl

/-- The state after RESTART written out, with any way of writing the levels. -/
theorem State.restartEffect_eq {s : State} {level : Fin 16 → Bool}
    (safe : ∀ n, level n = (safeOne s.out.table[n] s.out.chans[n]).level) : s.restartEffect =
    { s with
      rate := s.cfg.lineRate
      rx := { state := .settling s.time.localCount, badCount := 0, lastDiscard := .none, inBreak := s.rx.inBreak,
              freeBuffers := 16 }
      port := { forward := [], replies := [], credit := 0, noticeSeq := 0,
                tx := .gap (s.time.localCount + BitVec.ofNat 48 (2 * s.cfg.lineRate.charTicks)) }
      time := { localCount := s.time.localCount, offset := s.time.offset, sync := .unsynced, outliers := 0,
                reference := none, syncTimer := none, holdoverTimer := none }
      sched := { state := .halted, curSlot := s.sched.curSlot,
                 free := s.sched.free ++ s.sched.wheel.map ActionRecord.id, wheel := [] }
      out := { table := s.out.table
               chans := Vector.ofFn fun n =>
                 { level := level n, pulseEnd := none, lastTag := s.out.chans[n].lastTag } }
      cap := { s.cap with ring := [], nextSeq := 0, gapPending := false, highest := none }
      faults := { latched := 0, active := 0 }
      notices := { queue := [], outstanding := false } } := by
  have drive := congrArg State.out (State.safeDrive_eq safe)
  exact congrArg (fun v => { s.restartEffect with out := v }) drive

/-- Settles O48: both rows end the marked transmission, and RESTART's effect is written out. -/
theorem restartTakesEffect : Obligations.RestartTakesEffect := by
  intro s octets doneAt up now marked
  have due := (reached_iff s doneAt).mpr now
  have sending : s.sendingMarked = true ∧ s.sendingDone = true := by
    rcases marked with tx | ⟨tx, f, rest, forward, mark⟩
    · simp [State.sendingMarked, State.sendingDone, tx, due]
    · simp [State.sendingMarked, State.sendingDone, tx, due, forward, mark]
  have ends : s.endTransmission = s.restartEffect := (if_pos sending.1).trans s.restartEffect_after
  have effect := ends.trans (State.restartEffect_eq fun _ => rfl)
  refine ⟨?_, ?_⟩
  · exact (answer_up up).trans (congrArg Host.Outcome.next ((if_pos sending.2).trans effect))
  · refine (answer_up up).trans (congrArg Host.Outcome.next ((if_pos ?_).trans effect))
    rw [sending.1, sending.2]
    rfl

end Sys2Proof.Machine
end

section
/-! The checks of SCHEDULE (section 5.3) one by one, and what a descriptor gets. -/

namespace Sys2Proof.Machine

/-! ## The Due that a descriptor names (R82 to R84) -/

theorem slotOf_ofInt (k : Nat) (t : Ticks) (n : Int) (h : (t.toNat : Int) = n % 2 ^ 48) :
    slotOf k t = BitVec.ofInt 32 (n % 2 ^ 48 / 2 ^ k) := by
  rw [← h]
  refine BitVec.eq_of_toNat_eq ?_
  rw [toNat_slotOf, BitVec.toNat_ofInt]
  norm_cast

theorem toNat_add_signExtend (now : Ticks) (x : BitVec 32) :
    ((now + x.signExtend 48).toNat : Int) = (now.toNat + x.toInt) % 2 ^ 48 := by
  have wide : (x.signExtend 48).toInt = x.toInt := BitVec.toInt_signExtend_of_le (by decide)
  have value : ((x.signExtend 48).toNat : Int) % 2 ^ 48 = x.toInt % 2 ^ 48 := by
    rw [← wide, BitVec.toInt_eq_toNat_bmod]
    exact (Int.bmod_emod).symm
  rw [BitVec.toNat_add]
  omega

theorem toInt_sub_low (target : BitVec 32) (now : Ticks) :
    (target - now.setWidth 32).toInt = Int.bmod (target.toNat - now.toNat) (2 ^ 32) := by
  rw [BitVec.toInt_sub, BitVec.toInt_eq_toNat_bmod, BitVec.toInt_eq_toNat_bmod, BitVec.toNat_setWidth]
  rw [Int.natCast_emod, Int.emod_bmod, Int.bmod_sub_bmod, Int.sub_bmod_bmod]

/-- The Due of the model is the Due named in plain arithmetic. -/
theorem State.dueOf_eq_namedDue {s : State} {d : Descriptor} {m : TimeMode} (mode : descMode d = some m)
    (arrivalSlot : SlotNo) : s.dueOf m arrivalSlot d.target = s.namedDue arrivalSlot d := by
  unfold State.namedDue
  rcases descMode_cases d with ⟨number, is⟩ | ⟨number, is⟩ | ⟨number, is⟩ | ⟨number, is⟩ <;>
    cases is.symm.trans mode <;> rw [number]
  · refine slotOf_ofInt _ _ _ ?_
    rw [extendTarget, toNat_add_signExtend, toInt_sub_low]
  · refine slotOf_ofInt _ _ _ ?_
    simp
  · rfl

/-! ## The twelve checks (R86) -/

/-- The kind that a valid action code names. -/
def actionNamed (code : Octet) : ActionKind :=
  if code = 1 then .set else if code = 2 then .clear else if code = 3 then .toggle else .pulse

theorem actionNamed_maskBit {code : Octet} (valid : ¬ (code = 0 ∨ 5 ≤ code.toNat)) :
    (actionNamed code).maskBit = code.toNat - 1 := by
  have small : code.toNat = 1 ∨ code.toNat = 2 ∨ code.toNat = 3 ∨ code.toNat = 4 := by
    have zero : code.toNat ≠ 0 := fun h => valid (.inl (BitVec.eq_of_toNat_eq h))
    omega
  unfold actionNamed
  simp only [← BitVec.toNat_inj, BitVec.reduceToNat]
  rcases small with is | is | is | is <;> simp [is, ActionKind.maskBit]

theorem actionNamed_eq_pulse {code : Octet} (valid : ¬ (code = 0 ∨ 5 ≤ code.toNat)) :
    actionNamed code = .pulse ↔ code = 4 := by
  have small : code.toNat = 1 ∨ code.toNat = 2 ∨ code.toNat = 3 ∨ code.toNat = 4 := by
    have zero : code.toNat ≠ 0 := fun h => valid (.inl (BitVec.eq_of_toNat_eq h))
    omega
  unfold actionNamed
  simp only [← BitVec.toNat_inj, BitVec.reduceToNat]
  rcases small with is | is | is | is <;> simp [is]

section Checks

variable {s : State} {e : Station} {arrivalSlot : SlotNo} {d : Descriptor}

/-- The entry of the channel that a descriptor names. -/
abbrev State.entryOf (s : State) (d : Descriptor) : ChannelEntry := s.out.table[Fin.ofNat 16 d.channel.toNat]

theorem actionRefused_action (fails : s.Fails e arrivalSlot d .actionRefused) :
    actionRefused (s.entryOf d) d = .error .actionRefused := by
  unfold actionRefused
  rw [ActionKind.ofCode_eq]
  by_cases valid : d.action = 0 ∨ 5 ≤ d.action.toNat
  · rw [if_pos valid]
  · have masked := (fails.resolve_left fun zero => valid (.inl zero)).resolve_left fun large => valid (.inr large)
    rw [← actionNamed_maskBit valid] at masked
    rw [if_neg valid]
    exact if_pos (by rw [Bool.not_eq_true']; exact masked)

/-- Check 4 passed: the code names an action of the channel's mask, and checks 5 and 6 remain. -/
theorem actionRefused_permitted (passes : ¬ s.Fails e arrivalSlot d .actionRefused) :
    actionRefused (s.entryOf d) d =
      if (actionNamed d.action = .pulse && (decide (d.width.toNat = 0) ||
        decide ((s.entryOf d).maxPulse.toNat < d.width.toNat))) = true then .error .widthRange
      else if (decide (d.count ≠ 1) && decide (d.period = 0)) = true then .error .badRepeat
      else .ok (actionNamed d.action) := by
  have valid : ¬ (d.action = 0 ∨ 5 ≤ d.action.toNat) := fun bad => passes (bad.elim .inl (.inr ∘ .inl))
  have masked : (s.entryOf d).actionMask.getLsbD (actionNamed d.action).maskBit = true := by
    rw [actionNamed_maskBit valid]
    exact Bool.eq_true_of_not_eq_false fun clear => passes (.inr (.inr clear))
  unfold actionRefused
  rw [ActionKind.ofCode_eq, if_neg valid]
  exact if_neg (by rw [Bool.not_eq_true', Bool.not_eq_false]; exact masked)

theorem widthTest_iff (passes : ¬ s.Fails e arrivalSlot d .actionRefused) :
    (decide (actionNamed d.action = .pulse) && (decide (d.width.toNat = 0) ||
      decide ((s.entryOf d).maxPulse.toNat < d.width.toNat))) = true ↔ s.Fails e arrivalSlot d .widthRange := by
  have valid : ¬ (d.action = 0 ∨ 5 ≤ d.action.toNat) := fun bad => passes (bad.elim .inl (.inr ∘ .inl))
  rw [Bool.and_eq_true, Bool.or_eq_true, decide_eq_true_iff, decide_eq_true_iff, decide_eq_true_iff,
    actionNamed_eq_pulse valid]
  unfold State.Fails
  rw [← BitVec.toNat_inj (x := d.width)]
  rfl

theorem repeatTest_iff : (decide (d.count ≠ 1) && decide (d.period = 0)) = true ↔ s.Fails e arrivalSlot d .badRepeat := by
  rw [Bool.and_eq_true, decide_eq_true_iff, decide_eq_true_iff]
  rfl

theorem State.timeRefused_eq_some {m : TimeMode} {r : DescResult} (mode : descMode d = some m)
    (refused : s.timeRefused m = some r) : (r = .noTime ∧ s.Fails e arrivalSlot d .noTime) ∨
      (r = .noReference ∧ ¬ s.Fails e arrivalSlot d .noTime ∧ s.Fails e arrivalSlot d .noReference) := by
  unfold State.timeRefused at refused
  rcases descMode_cases d with ⟨number, is⟩ | ⟨number, is⟩ | ⟨number, is⟩ | ⟨number, is⟩ <;>
    cases is.symm.trans mode
  · simp only at refused
    split at refused <;> cases refused
    · exact .inl ⟨rfl, number, .inl ‹_›⟩
    · exact .inl ⟨rfl, number, .inr ‹_›⟩
  · obtain ⟨invalid, ⟨⟩⟩ := Option.ite_none_right_eq_some.mp refused
    exact .inr ⟨rfl, fun abs => by have := abs.1; omega, number, invalid⟩
  · cases refused

theorem State.timeRefused_eq_none {m : TimeMode} (mode : descMode d = some m) (passed : s.timeRefused m = none) :
    ¬ s.Fails e arrivalSlot d .noTime ∧ ¬ s.Fails e arrivalSlot d .noReference := by
  unfold State.timeRefused at passed
  rcases descMode_cases d with ⟨number, is⟩ | ⟨number, is⟩ | ⟨number, is⟩ | ⟨number, is⟩ <;>
    cases is.symm.trans mode
  · refine ⟨fun ⟨_, unsynced⟩ => ?_, fun ⟨ref, _⟩ => by omega⟩
    rcases unsynced with sync | sync <;> simp [sync] at passed
  · refine ⟨fun ⟨abs, _⟩ => by omega, fun ⟨_, invalid⟩ => ?_⟩
    simp [invalid] at passed
  · exact ⟨fun ⟨abs, _⟩ => by omega, fun ⟨ref, _⟩ => by omega⟩

theorem arrivalMode_iff {m : TimeMode} (mode : descMode d = some m) : m = .arrival ↔ d.modeFlags.toNat % 4 = 2 := by
  rcases descMode_cases d with ⟨number, is⟩ | ⟨number, is⟩ | ⟨number, is⟩ | ⟨number, is⟩ <;>
    cases is.symm.trans mode <;> simp [number]

theorem State.earlyTest_iff {m : TimeMode} (mode : descMode d = some m) :
    (decide (slotDistance s.sched.curSlot (s.namedDue arrivalSlot d) < (s.cfg.lead : Int)) ||
      (decide (m = .arrival) && decide (d.target = 0))) = true ↔ s.Fails e arrivalSlot d .tooEarly := by
  rw [Bool.or_eq_true, Bool.and_eq_true, decide_eq_true_iff, decide_eq_true_iff, decide_eq_true_iff, arrivalMode_iff mode]
  rfl

theorem State.lateTest_iff {m : TimeMode} (mode : descMode d = some m) :
    (decide ((s.cfg.window : Int) < slotDistance s.sched.curSlot (s.namedDue arrivalSlot d)) ||
      (decide (m = .arrival) && decide (255 < d.target.toNat))) = true ↔ s.Fails e arrivalSlot d .tooLate := by
  rw [Bool.or_eq_true, Bool.and_eq_true, decide_eq_true_iff, decide_eq_true_iff, decide_eq_true_iff, arrivalMode_iff mode]
  rfl

/-- None of the first `n` checks fails. -/
def State.Passes (s : State) (e : Station) (arrivalSlot : SlotNo) (d : Descriptor) (n : Nat) : Prop :=
  ∀ j (hj : j < checkOrder.length), j < n → ¬ s.Fails e arrivalSlot d checkOrder[j]

/-- The check of number `k` fails and none before it does. -/
def State.FailsFirst (s : State) (e : Station) (arrivalSlot : SlotNo) (d : Descriptor) (k : Nat) : Prop :=
  s.Passes e arrivalSlot d k ∧ ∃ hk : k < checkOrder.length, s.Fails e arrivalSlot d checkOrder[k]

theorem State.passes_zero : s.Passes e arrivalSlot d 0 := fun _ _ none => absurd none (Nat.not_lt_zero _)

theorem State.Passes.next {n : Nat} (h : s.Passes e arrivalSlot d n) {r : DescResult} (check : checkOrder[n]? = some r)
    (passes : ¬ s.Fails e arrivalSlot d r) : s.Passes e arrivalSlot d (n + 1) := by
  intro j hj before
  rcases Nat.lt_succ_iff_lt_or_eq.mp before with lt | rfl
  · exact h j hj lt
  · rw [List.getElem?_eq_getElem hj] at check
    cases check
    exact passes

theorem State.Passes.fails {k : Nat} (h : s.Passes e arrivalSlot d k) {r : DescResult} (check : checkOrder[k]? = some r)
    (fails : s.Fails e arrivalSlot d r) : s.FailsFirst e arrivalSlot d k := by
  obtain ⟨hk, is⟩ := List.getElem?_eq_some_iff.mp check
  exact ⟨h, hk, is ▸ fails⟩

/-- Only one check can be the first that fails. -/
theorem State.FailsFirst.unique {j k : Nat} (hj : s.FailsFirst e arrivalSlot d j) (hk : s.FailsFirst e arrivalSlot d k) :
    j = k := by
  obtain ⟨beforeJ, boundJ, failsJ⟩ := hj
  obtain ⟨beforeK, boundK, failsK⟩ := hk
  rcases Nat.lt_trichotomy j k with lt | same | gt
  · exact absurd failsJ (beforeK j boundJ lt)
  · exact same
  · exact absurd failsK (beforeJ k boundK gt)

/-- The channel number as an index. -/
theorem channel_index (inside : d.channel.toNat < 16) :
    (⟨d.channel.toNat, inside⟩ : Fin 16) = Fin.ofNat 16 d.channel.toNat :=
  Fin.ext (Nat.mod_eq_of_lt inside).symm

theorem State.judge_noChannel (fails : s.Fails e arrivalSlot d .noChannel) :
    s.judge e.mask arrivalSlot d = .error .noChannel :=
  dif_neg (Nat.not_lt.mpr fails)

theorem State.judge_notPermitted (inside : d.channel.toNat < 16) (fails : s.Fails e arrivalSlot d .notPermitted) :
    s.judge e.mask arrivalSlot d = .error .notPermitted :=
  (dif_pos inside).trans (if_pos (Bool.not_eq_true' _ ▸ fails))

section

variable (inside : d.channel.toNat < 16) (permitted : ¬ s.Fails e arrivalSlot d .notPermitted)
include inside permitted

theorem State.judge_disabled (fails : s.Fails e arrivalSlot d .channelDisabled) :
    s.judge e.mask arrivalSlot d = .error .channelDisabled := by
  have mask : e.mask.getLsbD d.channel.toNat = true := Bool.eq_true_of_not_eq_false permitted
  have off : (s.entryOf d).enabled = false := fails
  unfold State.judge
  simp only [dif_pos inside, channel_index inside, mask, off, Bool.not_true, Bool.not_false, if_true, Bool.false_eq_true,
    if_false]

variable (enabled : ¬ s.Fails e arrivalSlot d .channelDisabled)
include enabled

theorem State.judge_refused {r : DescResult} (refused : actionRefused (s.entryOf d) d = .error r) :
    s.judge e.mask arrivalSlot d = .error r := by
  have mask : e.mask.getLsbD d.channel.toNat = true := Bool.eq_true_of_not_eq_false permitted
  have on : (s.entryOf d).enabled = true := Bool.eq_true_of_not_eq_false enabled
  unfold State.judge
  simp only [dif_pos inside, channel_index inside, mask, on, refused, Bool.not_true, Bool.false_eq_true, if_false]

/-- Checks 7 to 10, for a descriptor whose action passes. -/
theorem State.judge_timed {k : ActionKind} {m : TimeMode} (passed : actionRefused (s.entryOf d) d = .ok k)
    (mode : descMode d = some m) : (∀ r, s.timeRefused m = some r → s.judge e.mask arrivalSlot d = .error r) ∧
      (s.timeRefused m = none →
        (∀ r, s.dueRefused m d.target (s.namedDue arrivalSlot d) = some r → s.judge e.mask arrivalSlot d = .error r) ∧
        (s.dueRefused m d.target (s.namedDue arrivalSlot d) = none →
          s.judge e.mask arrivalSlot d = .ok (Fin.ofNat 16 d.channel.toNat, k, s.namedDue arrivalSlot d))) := by
  have mask : e.mask.getLsbD d.channel.toNat = true := Bool.eq_true_of_not_eq_false permitted
  have on : (s.entryOf d).enabled = true := Bool.eq_true_of_not_eq_false enabled
  unfold State.judge
  simp only [dif_pos inside, channel_index inside, mask, on, passed, mode, State.dueOf_eq_namedDue mode, Bool.not_true,
    Bool.false_eq_true, if_false]
  exact ⟨fun r time => by rw [time], fun time => by rw [time]; exact ⟨fun r due => by rw [due], fun due => by rw [due]⟩⟩

end

theorem State.dueRefused_early {m : TimeMode} (mode : descMode d = some m) (fails : s.Fails e arrivalSlot d .tooEarly) :
    s.dueRefused m d.target (s.namedDue arrivalSlot d) = some .tooEarly :=
  if_pos ((State.earlyTest_iff mode).mpr fails)

theorem State.dueRefused_late {m : TimeMode} (mode : descMode d = some m) (passes : ¬ s.Fails e arrivalSlot d .tooEarly)
    (fails : s.Fails e arrivalSlot d .tooLate) :
    s.dueRefused m d.target (s.namedDue arrivalSlot d) = some .tooLate :=
  (if_neg (mt (State.earlyTest_iff mode).mp passes)).trans (if_pos ((State.lateTest_iff mode).mpr fails))

theorem State.dueRefused_none {m : TimeMode} (mode : descMode d = some m) (early : ¬ s.Fails e arrivalSlot d .tooEarly)
    (late : ¬ s.Fails e arrivalSlot d .tooLate) : s.dueRefused m d.target (s.namedDue arrivalSlot d) = none :=
  (if_neg (mt (State.earlyTest_iff mode).mp early)).trans (if_neg (mt (State.lateTest_iff mode).mp late))

/-- R86, checks 1 to 10: the judgement of a descriptor is the first check that fails, or its channel, action and Due. -/
theorem State.judge_first (s : State) (e : Station) (arrivalSlot : SlotNo) {d : Descriptor}
    (valid : d.modeFlags.toNat % 4 ≠ 3) :
    (∃ k r, checkOrder[k]? = some r ∧ s.judge e.mask arrivalSlot d = .error r ∧ s.FailsFirst e arrivalSlot d k) ∨
    (s.judge e.mask arrivalSlot d = .ok (Fin.ofNat 16 d.channel.toNat, actionNamed d.action, s.namedDue arrivalSlot d) ∧
      s.Passes e arrivalSlot d 10) := by
  obtain ⟨m, mode⟩ := Option.isSome_iff_exists.mp ((descMode_isSome_iff d).mpr valid)
  have p0 : s.Passes e arrivalSlot d 0 := State.passes_zero
  by_cases c0 : s.Fails e arrivalSlot d .noChannel
  · exact .inl ⟨0, _, rfl, State.judge_noChannel c0, p0.fails rfl c0⟩
  have inside : d.channel.toNat < 16 := Nat.not_le.mp c0
  have p1 := p0.next rfl c0
  by_cases c1 : s.Fails e arrivalSlot d .notPermitted
  · exact .inl ⟨1, _, rfl, State.judge_notPermitted inside c1, p1.fails rfl c1⟩
  have p2 := p1.next rfl c1
  by_cases c2 : s.Fails e arrivalSlot d .channelDisabled
  · exact .inl ⟨2, _, rfl, State.judge_disabled inside c1 c2, p2.fails rfl c2⟩
  have p3 := p2.next rfl c2
  by_cases c3 : s.Fails e arrivalSlot d .actionRefused
  · exact .inl ⟨3, _, rfl, State.judge_refused inside c1 c2 (actionRefused_action c3), p3.fails rfl c3⟩
  have p4 := p3.next rfl c3
  have action := actionRefused_permitted c3
  by_cases c4 : s.Fails e arrivalSlot d .widthRange
  · rw [if_pos ((widthTest_iff c3).mpr c4)] at action
    exact .inl ⟨4, _, rfl, State.judge_refused inside c1 c2 action, p4.fails rfl c4⟩
  have p5 := p4.next rfl c4
  rw [if_neg (mt (widthTest_iff c3).mp c4)] at action
  by_cases c5 : s.Fails e arrivalSlot d .badRepeat
  · rw [if_pos (repeatTest_iff.mpr c5)] at action
    exact .inl ⟨5, _, rfl, State.judge_refused inside c1 c2 action, p5.fails rfl c5⟩
  have p6 := p5.next rfl c5
  rw [if_neg (mt repeatTest_iff.mp c5)] at action
  obtain ⟨refusedTime, passedTime⟩ := State.judge_timed inside c1 c2 action mode
  cases time : s.timeRefused m with
  | some r =>
    rcases State.timeRefused_eq_some (e := e) (arrivalSlot := arrivalSlot) mode time with ⟨rfl, c6⟩ | ⟨rfl, c6, c7⟩
    · exact .inl ⟨6, _, rfl, refusedTime _ time, p6.fails rfl c6⟩
    · exact .inl ⟨7, _, rfl, refusedTime _ time, (p6.next rfl c6).fails rfl c7⟩
  | none =>
    obtain ⟨c6, c7⟩ := State.timeRefused_eq_none (e := e) (arrivalSlot := arrivalSlot) mode time
    obtain ⟨refusedDue, passedDue⟩ := passedTime time
    have p8 := (p6.next rfl c6).next rfl c7
    by_cases c8 : s.Fails e arrivalSlot d .tooEarly
    · exact .inl ⟨8, _, rfl, refusedDue _ (State.dueRefused_early mode c8), p8.fails rfl c8⟩
    have p9 := p8.next rfl c8
    by_cases c9 : s.Fails e arrivalSlot d .tooLate
    · exact .inl ⟨9, _, rfl, refusedDue _ (State.dueRefused_late mode c8 c9), p9.fails rfl c9⟩
    exact .inr ⟨passedDue (State.dueRefused_none mode c8 c9), p9.next rfl c9⟩

/-- The record that a descriptor describes (R64, R65), with its Due named in plain arithmetic. -/
def State.recordNamed (s : State) (src : Octet) (arrivalSlot : SlotNo) (d : Descriptor) (id : Nat) : ActionRecord :=
  lineRecord src d (Fin.ofNat 16 d.channel.toNat) (actionNamed d.action) (s.namedDue arrivalSlot d) id

theorem State.slotFull_iff {src : Octet} {id : Nat} :
    s.listHasPlace (s.recordNamed src arrivalSlot d id).due = false ↔ s.Fails e arrivalSlot d .slotFull := by
  rw [State.listHasPlace, decide_eq_false_iff_not, State.slotList_eq_filter, Nat.not_lt]
  simp only [slotIndex, BitVec.toNat_setWidth]
  rfl

theorem State.linkRecord_eq {id : Nat} {rest : List Nat} (free : s.sched.free = id :: rest) (fill : Nat → ActionRecord) :
    s.linkRecord fill = if s.listHasPlace (fill id).due then
      some { s with sched := { s.sched with free := rest, wheel := s.sched.wheel ++ [fill id] } } else none := by
  simp only [State.linkRecord, free, State.setSched]

theorem State.admitDesc_none {src : Octet} {mask : BitVec 16} {ch : Fin 16} {k : ActionKind} {due : SlotNo}
    (judged : s.judge mask arrivalSlot d = .ok (ch, k, due)) (some : s.sched.free ≠ [])
    (full : s.linkRecord (lineRecord src d ch k due) = none) :
    s.admitDesc src mask arrivalSlot d = (.slotFull, s) := by
  simp only [State.admitDesc, judged, if_neg some, full]

theorem State.admitDesc_some {src : Octet} {mask : BitVec 16} {ch : Fin 16} {k : ActionKind} {due : SlotNo} {t : State}
    (judged : s.judge mask arrivalSlot d = .ok (ch, k, due)) (some : s.sched.free ≠ [])
    (linked : s.linkRecord (lineRecord src d ch k due) = .some t) :
    s.admitDesc src mask arrivalSlot d = (.accepted, t) := by
  simp only [State.admitDesc, judged, if_neg some, linked]

/-- R86, R91: a descriptor gets the first check that fails and changes nothing, or it is linked. -/
theorem State.admitDesc_first (s : State) (src : Octet) (e : Station) (arrivalSlot : SlotNo) {d : Descriptor}
    (valid : d.modeFlags.toNat % 4 ≠ 3) :
    (∃ k r, checkOrder[k]? = some r ∧ s.admitDesc src e.mask arrivalSlot d = (r, s) ∧ s.FailsFirst e arrivalSlot d k) ∨
    (∃ id rest, s.sched.free = id :: rest ∧ s.Passes e arrivalSlot d 12 ∧
      s.admitDesc src e.mask arrivalSlot d = (.accepted, { s with sched := { s.sched with
        free := rest, wheel := s.sched.wheel ++ [s.recordNamed src arrivalSlot d id] } })) := by
  rcases s.judge_first e arrivalSlot valid with ⟨k, r, check, judged, fails⟩ | ⟨judged, p10⟩
  · exact .inl ⟨k, r, check, by rw [State.admitDesc, judged], fails⟩
  · cases free : s.sched.free with
    | nil => exact .inl ⟨10, _, rfl, by rw [State.admitDesc, judged]; exact if_pos free, p10.fails rfl free⟩
    | cons id rest =>
      have some : s.sched.free ≠ [] := by rw [free]; exact List.cons_ne_nil _ _
      have p11 := p10.next (r := .poolEmpty) rfl some
      by_cases full : s.Fails e arrivalSlot d .slotFull
      · have none : s.linkRecord (s.recordNamed src arrivalSlot d) = none := by
          rw [State.linkRecord_eq free, State.slotFull_iff.mpr full]
          rfl
        exact .inl ⟨11, _, rfl, State.admitDesc_none judged some none, p11.fails rfl full⟩
      · have place := Bool.eq_true_of_not_eq_false (mt (State.slotFull_iff (src := src) (id := id)).mp full)
        refine .inr ⟨id, rest, rfl, p11.next rfl full, State.admitDesc_some judged some ?_⟩
        rw [State.linkRecord_eq free, ← State.recordNamed, place]
        rfl

end Checks

end Sys2Proof.Machine
end

section
/-! Statements about SCHEDULE (chapter 5): one descriptor, each on its own, all or none. -/

namespace Sys2Proof.Machine

/-! ## The row (R33, R80) -/

theorem answer_schedule_taken {s t : State} {h : ReqHeader} {e : Station} {arrival : Ticks} {flags : Octet}
    {ds : List Descriptor} {rs : List DescResult} (takes : s.Takes h kindSchedule e)
    (formed : (Request.schedule flags ds).wellFormed = true)
    (does : s.takeSchedule h.src e.mask arrival flags ds = (rs, t)) :
    exec (.schedule h arrival flags ds) s =
      .next (t.answered h .reply (.fixed (BitVec.ofNat 8 ds.length :: rs.map DescResult.code))).settle := by
  refine (State.answer_request_taken (r := .schedule flags ds) takes formed arrival).trans ?_
  unfold State.perform
  simp only [does]
  rfl

theorem State.takeSchedule_each {s : State} {flags : Octet} (live : s.sched.state ≠ .halted)
    (each : flags.getLsbD 0 = false) (src : Octet) (mask : BitVec 16) (arrival : Ticks) (ds : List Descriptor) :
    s.takeSchedule src mask arrival flags ds = s.admitEach src mask (slotOf s.cfg.slotExp arrival) ds := by
  rw [State.takeSchedule, if_neg live, if_neg (by rw [each]; decide)]

theorem State.takeSchedule_atomic {s : State} {flags : Octet} (live : s.sched.state ≠ .halted)
    (atomic : flags.getLsbD 0 = true) (src : Octet) (mask : BitVec 16) (arrival : Ticks) (ds : List Descriptor) :
    s.takeSchedule src mask arrival flags ds = s.admitAll src mask (slotOf s.cfg.slotExp arrival) [] ds := by
  rw [State.takeSchedule, if_neg live, if_pos atomic]

theorem State.admitEach_cons (s : State) (src : Octet) (mask : BitVec 16) (arrivalSlot : SlotNo) (d : Descriptor)
    (ds : List Descriptor) : s.admitEach src mask arrivalSlot (d :: ds) =
      ((s.admitDesc src mask arrivalSlot d).1 ::
        ((s.admitDesc src mask arrivalSlot d).2.admitEach src mask arrivalSlot ds).1,
       ((s.admitDesc src mask arrivalSlot d).2.admitEach src mask arrivalSlot ds).2) := rfl

theorem State.admitAll_accepted {s t : State} {src : Octet} {mask : BitVec 16} {arrivalSlot : SlotNo} {d : Descriptor}
    (admitted : s.admitDesc src mask arrivalSlot d = (.accepted, t)) (linked : List Nat) (ds : List Descriptor) :
    s.admitAll src mask arrivalSlot linked (d :: ds) =
      t.admitAll src mask arrivalSlot (linked ++ [s.sched.free.headD 0]) ds := by
  rw [State.admitAll, admitted]

theorem State.admitAll_refused {s t : State} {src : Octet} {mask : BitVec 16} {arrivalSlot : SlotNo} {d : Descriptor}
    {r : DescResult} (refused : s.admitDesc src mask arrivalSlot d = (r, t)) (other : r ≠ .accepted) (linked : List Nat)
    (ds : List Descriptor) : s.admitAll src mask arrivalSlot linked (d :: ds) =
      (linked.map (fun _ => .withdrawn) ++ r :: ds.map (fun _ => .notAttempted), linked.foldl State.freeRecord s) := by
  rw [State.admitAll, refused]
  cases r with
  | accepted => exact absurd rfl other
  | _ => rfl

/-- A frame of one descriptor is that descriptor's admission, ATOMIC or not. -/
theorem State.takeSchedule_one {s : State} (live : s.sched.state ≠ .halted) (src : Octet) (mask : BitVec 16)
    (arrival : Ticks) (flags : Octet) (d : Descriptor) : s.takeSchedule src mask arrival flags [d] =
      ([(s.admitDesc src mask (slotOf s.cfg.slotExp arrival) d).1],
       (s.admitDesc src mask (slotOf s.cfg.slotExp arrival) d).2) := by
  cases atomic : flags.getLsbD 0 with
  | false => exact State.takeSchedule_each live atomic src mask arrival [d]
  | true =>
    rw [State.takeSchedule_atomic live atomic]
    rcases s.admitDesc_refused_or_linked src mask (slotOf s.cfg.slotExp arrival) d with
      ⟨r, other, refused⟩ | ⟨ch, k, due, t, -, -, admitted⟩
    · rw [State.admitAll_refused refused other, refused]
      rfl
    · rw [State.admitAll_accepted admitted, admitted]
      rfl

theorem wellFormed_one {flags : Octet} {d : Descriptor} (valid : d.modeFlags.toNat % 4 ≠ 3) :
    (Request.schedule flags [d]).wellFormed = true :=
  (wellFormed_schedule_iff flags [d]).mpr ⟨le_rfl, by simp, by simpa using valid⟩

/-! ## One descriptor (R86) -/

/-- The first check that fails, in the terms of the statements. -/
theorem State.failsFirst_of {s : State} {e : Station} {arrivalSlot : SlotNo} {d : Descriptor} {k : Nat}
    (hk : k < checkOrder.length) (fails : s.Fails e arrivalSlot d checkOrder[k])
    (before : ∀ j (hj : j < checkOrder.length), j < k → ¬ s.Fails e arrivalSlot d checkOrder[j]) :
    s.FailsFirst e arrivalSlot d k :=
  ⟨before, hk, fails⟩

theorem State.admitDesc_of_failsFirst {s : State} {e : Station} {arrivalSlot : SlotNo} {d : Descriptor} {k : Nat}
    (valid : d.modeFlags.toNat % 4 ≠ 3) (hk : k < checkOrder.length) (first : s.FailsFirst e arrivalSlot d k)
    (src : Octet) : s.admitDesc src e.mask arrivalSlot d = (checkOrder[k], s) := by
  rcases s.admitDesc_first src e arrivalSlot valid with ⟨j, r, check, refused, fails⟩ | ⟨id, rest, -, passes, -⟩
  · cases fails.unique first
    rw [List.getElem?_eq_getElem hk] at check
    cases check
    exact refused
  · obtain ⟨-, bound, fails⟩ := first
    exact absurd fails (passes k bound bound)

theorem State.admitDesc_of_passes {s : State} {e : Station} {arrivalSlot : SlotNo} {d : Descriptor}
    (valid : d.modeFlags.toNat % 4 ≠ 3) (passes : ∀ r, ¬ s.Fails e arrivalSlot d r) (src : Octet) :
    ∃ id rest, s.sched.free = id :: rest ∧ s.admitDesc src e.mask arrivalSlot d = (.accepted,
      { s with sched := { s.sched with
        free := rest, wheel := s.sched.wheel ++ [s.recordNamed src arrivalSlot d id] } }) := by
  rcases s.admitDesc_first src e arrivalSlot valid with ⟨j, r, -, -, -, bound, fails⟩ | ⟨id, rest, free, -, linked⟩
  · exact absurd fails (passes _)
  · exact ⟨id, rest, free, linked⟩

theorem withWidth_actionNamed (code : Octet) (width : Width) : (actionNamed code).withWidth width =
    if code = 1 then .set else if code = 2 then .clear else if code = 3 then .toggle else .pulse width := by
  unfold actionNamed
  split_ifs <;> rfl

theorem State.recordNamed_eq (s : State) (src : Octet) (arrivalSlot : SlotNo) (d : Descriptor) (id : Nat) :
    s.recordNamed src arrivalSlot d id =
      { id := id
        due := s.namedDue arrivalSlot d
        channel := Fin.ofNat 16 d.channel.toNat
        action := if d.action = 1 then .set else if d.action = 2 then .clear else if d.action = 3 then .toggle
                  else .pulse (d.width.setWidth 24)
        tag := d.tag
        origin := .line src
        period := if d.count = 1 then none else some d.period
        remaining := if d.count = 0 then .unlimited else .times d.count.toNat
        fired := 0
        report := d.modeFlags.getLsbD 7 } := by
  rw [State.recordNamed, lineRecord, withWidth_actionNamed, remainingOf, descReport]

/-- Settles O31: the checks in order, then the link; HALTED answers for every descriptor. -/
theorem scheduleChecksInOrder : Obligations.ScheduleChecksInOrder := by
  refine ⟨rfl, fun s h arrival flags e takes => ⟨fun d valid live => ⟨fun k hk fails before => ?_, fun passes id rest free => ?_⟩,
    fun halted ds some few valid => ?_⟩⟩
  · have does := State.takeSchedule_one live h.src e.mask arrival flags d
    rw [State.admitDesc_of_failsFirst valid hk (State.failsFirst_of hk fails before)] at does
    exact answer_schedule_taken takes (wellFormed_one valid) does
  · obtain ⟨id', rest', free', admitted⟩ := State.admitDesc_of_passes valid passes h.src
    cases free.symm.trans free'
    have does := State.takeSchedule_one live h.src e.mask arrival flags d
    rw [admitted, State.recordNamed_eq] at does
    have performed := answer_schedule_taken takes (wellFormed_one valid) does
    rw [performed]
    rfl
  · have does : s.takeSchedule h.src e.mask arrival flags ds = (ds.map fun _ => .halted, s) := if_pos halted
    have codes : (ds.map fun _ => DescResult.halted).map DescResult.code = List.replicate ds.length 1 := by
      rw [List.map_const', List.map_replicate]
      rfl
    rw [answer_schedule_taken takes ((wellFormed_schedule_iff flags ds).mpr ⟨some, few, valid⟩) does, codes]

/-! ## Each on its own (R92) -/

/-- What a non-atomic treatment leaves: records linked at the tail, one for each ACCEPTED, from the head of the free list. -/
theorem State.admitEach_adds (src : Octet) (mask : BitVec 16) (arrivalSlot : SlotNo) (ds : List Descriptor) (s : State) :
    (s.admitEach src mask arrivalSlot ds).1.length = ds.length ∧
    ∃ added : List ActionRecord, added.length = (s.admitEach src mask arrivalSlot ds).1.count .accepted ∧
      added.map (·.id) = s.sched.free.take added.length ∧
      (s.admitEach src mask arrivalSlot ds).2 = { s with sched := { s.sched with
        free := s.sched.free.drop added.length, wheel := s.sched.wheel ++ added } } := by
  induction ds generalizing s with
  | nil => exact ⟨rfl, [], rfl, rfl, by simp [State.admitEach]⟩
  | cons d ds ih =>
    rw [State.admitEach_cons]
    rcases s.admitDesc_refused_or_linked src mask arrivalSlot d with
      ⟨r, other, refused⟩ | ⟨ch, k, due, t, -, linked, admitted⟩
    · rw [refused]
      obtain ⟨length, added, count, ids, state⟩ := ih s
      exact ⟨congrArg (· + 1) length, added, by rw [List.count_cons_of_ne other]; exact count, ids, state⟩
    · rw [admitted]
      obtain ⟨length, added, count, ids, state⟩ := ih t
      obtain ⟨id, rest, free, -, rfl⟩ := State.linkRecord_eq_some linked
      refine ⟨congrArg (· + 1) length, lineRecord src d ch k due id :: added, ?_, ?_, ?_⟩
      · rw [List.count_cons_self, List.length_cons, count]
      · rw [List.map_cons, List.length_cons, free, List.take_succ_cons, ids]
        rfl
      · rw [state, List.length_cons, free]
        simp [State.setSched]

theorem State.admitDesc_cfg (s : State) (src : Octet) (mask : BitVec 16) (arrivalSlot : SlotNo) (d : Descriptor) :
    (s.admitDesc src mask arrivalSlot d).2.cfg = s.cfg := by
  obtain ⟨v, frame⟩ := s.admitDesc_frame src mask arrivalSlot d
  rw [frame]
  rfl

/-- Settles O32: the row, a frame of one, and the composition of the treatments. -/
theorem scheduleAdmitsEach : Obligations.ScheduleAdmitsEach := by
  refine ⟨fun s h e arrival flags ds takes some few valid => ?_, fun s src e arrival flags d live each valid => ⟨?_, ?_⟩,
    fun s src mask arrival flags live each => ⟨fun d ds => ?_, fun ds => ?_⟩⟩
  · exact answer_schedule_taken takes ((wellFormed_schedule_iff flags ds).mpr ⟨some, few, valid⟩) rfl
  · intro k hk fails before
    rw [State.takeSchedule_one live, State.admitDesc_of_failsFirst valid hk (State.failsFirst_of hk fails before)]
  · intro passes
    obtain ⟨id, rest, -, admitted⟩ := State.admitDesc_of_passes valid passes src
    rw [State.takeSchedule_one live, admitted]
  · have liveThen : (s.takeSchedule src mask arrival flags [d]).2.sched.state ≠ .halted := by
      rw [State.takeSchedule_one live, State.admitDesc_sched_state]
      exact live
    dsimp only
    rw [State.takeSchedule_each liveThen each, State.takeSchedule_each live each, State.takeSchedule_one live,
      State.admitDesc_cfg, State.admitEach_cons]
    rfl
  · rw [State.takeSchedule_each live each]
    exact State.admitEach_adds src mask (slotOf s.cfg.slotExp arrival) ds s

/-! ## All or none (R93) -/

/-- ATOMIC by the results of the treatment without it: everything linked, or the links undone. -/
theorem State.admitAll_by_each (src : Octet) (mask : BitVec 16) (arrivalSlot : SlotNo) (ds : List Descriptor) (s : State)
    (linked : List Nat) :
    ((∀ r ∈ (s.admitEach src mask arrivalSlot ds).1, r = .accepted) → s.admitAll src mask arrivalSlot linked ds =
      (List.replicate (linked.length + ds.length) .accepted, (s.admitEach src mask arrivalSlot ds).2)) ∧
    ∀ k r, (s.admitEach src mask arrivalSlot ds).1[k]? = some r → r ≠ .accepted →
      (∀ j < k, (s.admitEach src mask arrivalSlot ds).1[j]? = some .accepted) →
      s.admitAll src mask arrivalSlot linked ds =
        (List.replicate (linked.length + k) .withdrawn ++ r :: List.replicate (ds.length - k - 1) .notAttempted,
         (linked ++ s.sched.free.take k).foldl State.freeRecord (s.admitEach src mask arrivalSlot (ds.take k)).2) := by
  induction ds generalizing s linked with
  | nil => exact ⟨fun _ => by rw [State.admitAll, List.map_const']; rfl, fun k r none => nomatch none⟩
  | cons d ds ih =>
    rw [State.admitEach_cons]
    rcases s.admitDesc_refused_or_linked src mask arrivalSlot d with
      ⟨r, other, refused⟩ | ⟨ch, k, due, t, -, link, admitted⟩
    · rw [refused, State.admitAll_refused refused other]
      refine ⟨fun all => absurd (all r List.mem_cons_self) other, fun k q held bad before => ?_⟩
      cases k with
      | zero =>
        cases held
        simp [List.map_const', State.admitEach]
      | succ k => exact absurd (Option.some.inj (before 0 k.succ_pos)) other
    · rw [admitted, State.admitAll_accepted admitted]
      obtain ⟨all, first⟩ := ih t (linked ++ [s.sched.free.headD 0])
      obtain ⟨id, rest, free, -, is⟩ := State.linkRecord_eq_some link
      refine ⟨fun accepted => ?_, fun k q held bad before => ?_⟩
      · have long : (linked ++ [s.sched.free.headD 0]).length + ds.length = linked.length + (d :: ds).length := by
          simp only [List.length_append, List.length_cons, List.length_nil]
          omega
        rw [all fun r hr => accepted r (List.mem_cons_of_mem _ hr), long]
      · cases k with
        | zero => exact absurd (Option.some.inj held).symm bad
        | succ k =>
          have long : (linked ++ [s.sched.free.headD 0]).length + k = linked.length + (k + 1) := by
            simp only [List.length_append, List.length_cons, List.length_nil]
            omega
          have short : (d :: ds).length - (k + 1) - 1 = ds.length - k - 1 := by
            simp only [List.length_cons]
            omega
          rw [first k q held bad fun j lt => before (j + 1) (Nat.succ_lt_succ lt), List.take_succ_cons,
            State.admitEach_cons, admitted, long, short, free, List.take_succ_cons, List.append_assoc, is]
          rfl

/-- The records linked last, freed in order, leave the wheel as it was before them. -/
theorem State.foldl_freeRecord_added (added : List ActionRecord) (s : State) (wheel : List ActionRecord)
    (is : s.sched.wheel = wheel ++ added) (distinct : (s.sched.wheel.map (·.id)).Nodup) :
    (added.map (·.id)).foldl State.freeRecord s =
      { s with sched := { s.sched with free := s.sched.free ++ added.map (·.id), wheel := wheel } } := by
  induction added generalizing s with
  | nil =>
    rw [List.append_nil] at is
    simp [← is]
  | cons r added ih =>
    have wheelLeft : s.sched.wheel.eraseP (fun q => decide (q.id = r.id)) = wheel ++ added := by
      have absent : ∀ q ∈ wheel, ¬ decide (q.id = r.id) = true := by
        intro q hq same
        rw [is, List.map_append, List.nodup_append] at distinct
        exact distinct.2.2 q.id (List.mem_map_of_mem hq) r.id (by simp) (of_decide_eq_true same)
      rw [is, List.eraseP_append_right _ absent, List.eraseP_cons_of_pos (by simp)]
    have left : (s.freeRecord r.id).sched.wheel = wheel ++ added := wheelLeft
    have stillDistinct : ((s.freeRecord r.id).sched.wheel.map (·.id)).Nodup := by
      rw [left, ← wheelLeft]
      exact distinct.sublist (List.eraseP_sublist.map _)
    rw [List.map_cons, List.foldl_cons, ih (s.freeRecord r.id) left stillDistinct]
    simp [State.freeRecord, State.unlink, State.setSched]

theorem State.admitEach_take (src : Octet) (mask : BitVec 16) (arrivalSlot : SlotNo) (ds : List Descriptor) (k : Nat)
    (s : State) : (s.admitEach src mask arrivalSlot (ds.take k)).1 = (s.admitEach src mask arrivalSlot ds).1.take k := by
  induction ds generalizing s k with
  | nil => simp [State.admitEach]
  | cons d ds ih =>
    cases k with
    | zero => rfl
    | succ k =>
      rw [List.take_succ_cons, State.admitEach_cons, State.admitEach_cons, List.take_succ_cons]
      exact congrArg _ (ih k _)

/-- R93: with a whole pool, the links of the first descriptors are undone: the same records are free. -/
theorem State.admitted_undone {s : State} (whole : s.PoolWhole) {src : Octet} {mask : BitVec 16} {arrivalSlot : SlotNo}
    {ds : List Descriptor} {k : Nat} (small : k ≤ ds.length)
    (accepted : ∀ j < k, (s.admitEach src mask arrivalSlot ds).1[j]? = some .accepted) :
    ∃ free : List Nat, free.Perm s.sched.free ∧
      (s.sched.free.take k).foldl State.freeRecord (s.admitEach src mask arrivalSlot (ds.take k)).2 =
        { s with sched := { s.sched with free := free } } := by
  obtain ⟨length, added, count, ids, state⟩ := State.admitEach_adds src mask arrivalSlot (ds.take k) s
  have results : (s.admitEach src mask arrivalSlot (ds.take k)).1 = List.replicate k .accepted := by
    refine List.eq_replicate_iff.mpr ⟨by rw [length, List.length_take, Nat.min_eq_left small], fun r hr => ?_⟩
    rw [State.admitEach_take] at hr
    obtain ⟨j, hj, rfl⟩ := List.getElem_of_mem hr
    rw [List.length_take, Nat.lt_min] at hj
    have held := accepted j hj.1
    rw [List.getElem?_eq_getElem hj.2] at held
    rw [List.getElem_take]
    exact Option.some.inj held
  rw [results, List.count_replicate_self] at count
  rw [count] at ids state
  have distinct : ((s.sched.wheel ++ added).map (·.id)).Nodup := by
    have all : (s.sched.free ++ s.sched.wheel.map (·.id)).Nodup := whole.nodup_iff.mpr List.nodup_range
    rw [List.map_append, ids]
    refine (List.perm_append_comm.nodup_iff.mp all).sublist ?_
    exact (List.Sublist.refl _).append (List.take_sublist _ _)
  have undone := State.foldl_freeRecord_added added (s.admitEach src mask arrivalSlot (ds.take k)).2 s.sched.wheel
    (by rw [state]) (by rw [state]; exact distinct)
  rw [ids, state] at undone
  refine ⟨s.sched.free.drop k ++ s.sched.free.take k, ?_, by rw [state, undone]⟩
  exact List.perm_append_comm.trans (List.Perm.of_eq (List.take_append_drop k s.sched.free))

/-- Settles O33: the non-atomic results decide; the links of the first ones are undone. -/
theorem scheduleAtomicIsAllOrNothing : Obligations.ScheduleAtomicIsAllOrNothing := by
  intro s h arrival flags ds e takes whole live atomic some few valid
  have formed : (Request.schedule flags ds).wellFormed = true :=
    (wellFormed_schedule_iff flags ds).mpr ⟨some, few, valid⟩
  have each := State.takeSchedule_each (flags := 0) live (by decide) h.src e.mask arrival ds
  have all := State.takeSchedule_atomic live atomic h.src e.mask arrival ds
  obtain ⟨everything, nothing⟩ := State.admitAll_by_each h.src e.mask (slotOf s.cfg.slotExp arrival) ds s []
  dsimp only
  rw [each]
  refine ⟨fun accepted => ?_, fun k r held other before => ?_⟩
  · rw [everything accepted] at all
    rw [answer_schedule_taken takes formed all, List.map_replicate, List.length_nil, Nat.zero_add]
    rfl
  · have small : k ≤ ds.length := by
      have length := (State.admitEach_adds h.src e.mask (slotOf s.cfg.slotExp arrival) ds s).1
      have := (List.getElem?_eq_some_iff.mp held).1
      omega
    obtain ⟨free, perm, undone⟩ := State.admitted_undone whole small before
    refine ⟨free, perm, ?_⟩
    rw [nothing k r held other before, List.nil_append, undone] at all
    rw [answer_schedule_taken takes formed all, List.map_append, List.map_cons, List.map_replicate, List.map_replicate,
      List.length_nil, Nat.zero_add]
    rfl

end Sys2Proof.Machine
end

section
/-! CANCEL (O34): the walk takes the matching records one after the other, and no notice moves a record. -/

namespace Sys2Proof.Machine

/-! ## Lists with distinct numbers -/

/-- Erasing the record of one number keeps exactly the records of the other numbers. -/
theorem eraseP_id_eq_filter {wheel : List ActionRecord} (distinct : (wheel.map (·.id)).Nodup) (id : Nat) :
    wheel.eraseP (fun r => decide (r.id = id)) = wheel.filter fun r => decide (r.id ≠ id) := by
  induction wheel with
  | nil => rfl
  | cons x rest ih =>
    obtain ⟨fresh, rest_distinct⟩ := List.nodup_cons.mp distinct
    by_cases same : x.id = id
    · rw [List.eraseP_cons_of_pos (by simpa using same), List.filter_cons_of_neg (by simpa using same),
        List.filter_eq_self.mpr]
      intro r hr
      refine decide_eq_true fun again => fresh ?_
      exact List.mem_map.mpr ⟨r, hr, again.trans same.symm⟩
    · rw [List.eraseP_cons_of_neg (by simpa using same), List.filter_cons_of_pos (by simpa using same),
        ih rest_distinct]

/-- Two linked records with one number are one. -/
theorem eq_of_id_eq {wheel : List ActionRecord} (distinct : (wheel.map (·.id)).Nodup) {r q : ActionRecord} (hr : r ∈ wheel)
    (hq : q ∈ wheel) (same : r.id = q.id) : r = q :=
  List.inj_on_of_nodup_map distinct hr hq same

theorem State.PoolWhole.distinct {s : State} (whole : s.PoolWhole) : (s.sched.wheel.map (·.id)).Nodup :=
  (List.nodup_append.mp (whole.nodup_iff.mpr List.nodup_range)).2.1

/-- A linked record is found by its number. -/
theorem State.findRecord_of_mem {s : State} (distinct : (s.sched.wheel.map (·.id)).Nodup) {r : ActionRecord}
    (linked : r ∈ s.sched.wheel) : s.findRecord r.id = some r := by
  cases found : s.findRecord r.id with
  | none => exact absurd rfl (of_decide_eq_false (Bool.eq_false_iff.mpr (List.find?_eq_none.mp found r linked)))
  | some q => rw [eq_of_id_eq distinct (State.findRecord_eq_some found).1 linked (State.findRecord_eq_some found).2]

/-! ## Notices and the pool -/

/-- The state with this free list and these linked records. -/
def State.withPool (s : State) (free : List Nat) (wheel : List ActionRecord) : State :=
  s.setSched { s.sched with free := free, wheel := wheel }

theorem State.freeRecord_eq (s : State) (id : Nat) :
    s.freeRecord id = s.withPool (s.sched.free ++ [id]) (s.sched.wheel.eraseP fun r => r.id = id) := rfl

theorem State.freezeResponse_withPool (s : State) (f : List Nat) (w : List ActionRecord) :
    (s.withPool f w).freezeResponse = s.freezeResponse.withPool f w := by
  cases state : s.sched.state with
  | halted => rw [State.freezeResponse_halted state, State.freezeResponse_halted (s := s.withPool f w) state]; rfl
  | running => rw [State.freezeResponse_running state, State.freezeResponse_running (s := s.withPool f w) state]; rfl
  | frozen => rw [State.freezeResponse_frozen state, State.freezeResponse_frozen (s := s.withPool f w) state]

theorem State.respond_withPool (s : State) (k : FaultKind) (f : List Nat) (w : List ActionRecord) :
    (s.withPool f w).respond k = (s.respond k).withPool f w := by
  unfold State.respond
  rw [show (s.withPool f w).responseOf k = s.responseOf k from rfl]
  cases s.responseOf k with
  | note => rfl
  | freeze => exact s.freezeResponse_withPool f w

/-! R168, R172: an offer, by the room it meets. -/

theorem State.offerNotice_room {s : State} (room : s.notices.queue.length < 32) (b : NoticeBody) :
    s.offerNotice b =
      s.setNotices { s.notices with queue := s.notices.queue ++ [{ overflow := false, body := b }] } :=
  if_pos room

theorem State.offerNotice_full {s : State} (full : ¬ s.notices.queue.length < 32)
    (latched : s.isLatched .noticeOverflow = true) (b : NoticeBody) :
    s.offerNotice b = s.setNotices { s.notices with queue := markNewest s.notices.queue } :=
  (if_neg full).trans (if_pos latched)

theorem State.offerNotice_overflow {s : State} (full : ¬ s.notices.queue.length < 32)
    (clear : ¬ s.isLatched .noticeOverflow = true) (b : NoticeBody) :
    s.offerNotice b = ((s.setNotices { s.notices with queue := markNewest s.notices.queue }).latch
      .noticeOverflow).respond .noticeOverflow :=
  (if_neg full).trans (if_neg clear)

/-- An offer neither looks at the pool nor moves a record. -/
theorem State.offerNotice_withPool (s : State) (b : NoticeBody) (f : List Nat) (w : List ActionRecord) :
    (s.withPool f w).offerNotice b = (s.offerNotice b).withPool f w := by
  by_cases room : s.notices.queue.length < 32
  · rw [State.offerNotice_room room, State.offerNotice_room (s := s.withPool f w) room]
    rfl
  · by_cases latched : s.isLatched .noticeOverflow = true
    · rw [State.offerNotice_full room latched, State.offerNotice_full (s := s.withPool f w) room latched]
      rfl
    · rw [State.offerNotice_overflow room latched, State.offerNotice_overflow (s := s.withPool f w) room latched]
      exact State.respond_withPool
        ((s.setNotices { s.notices with queue := markNewest s.notices.queue }).latch .noticeOverflow) _ f w

theorem State.offerCompletion_cancelled (s : State) (r : ActionRecord) (time : Ticks) :
    s.offerCompletion r .cancelled time =
      if r.report then s.offerNotice (.completion r.tag r.channel .cancelled r.origin r.fired time) else s := by
  simp [State.offerCompletion, ActionOutcome.abnormal]

/-! ## The walk -/

/-- R98: the turn of a linked record. -/
theorem State.cancelTurn_linked {s : State} (distinct : (s.sched.wheel.map (·.id)).Nodup) {r : ActionRecord}
    (linked : r ∈ s.sched.wheel) (time : Ticks) :
    State.cancelTurn time s r.id = (s.freeRecord r.id).offerCompletion r .cancelled time := by
  rw [State.cancelTurn, State.findRecord_of_mem distinct linked]

/-- R98: linked records cancelled in order: all are freed, and the notices of those with Report set are offered. -/
theorem State.foldl_cancelTurn (time : Ticks) (rs : List ActionRecord) (s : State)
    (distinct : (s.sched.wheel.map (·.id)).Nodup) (linked : ∀ r ∈ rs, r ∈ s.sched.wheel) (once : (rs.map (·.id)).Nodup) :
    (rs.map (·.id)).foldl (State.cancelTurn time) s =
      (rs.filter fun r => r.report = true).foldl
        (fun t r => t.offerNotice (.completion r.tag r.channel .cancelled r.origin r.fired time))
        (s.withPool (s.sched.free ++ rs.map (·.id)) (s.sched.wheel.filter fun q => decide (q.id ∉ rs.map (·.id)))) := by
  induction rs generalizing s with
  | nil =>
    simp only [List.map_nil, List.append_nil, List.filter_nil, List.foldl_nil, List.not_mem_nil, not_false_eq_true,
      decide_true, List.filter_true]
    rfl
  | cons r rs ih =>
    obtain ⟨fresh, rest_once⟩ := List.nodup_cons.mp once
    have wheelLeft : (s.freeRecord r.id).sched.wheel = s.sched.wheel.filter fun q => decide (q.id ≠ r.id) :=
      eraseP_id_eq_filter distinct r.id
    have kept := (s.freeRecord r.id).offerCompletion_noticesOnly r .cancelled time
    have wheel := kept.sched_wheel.trans wheelLeft
    have free : _ = s.sched.free ++ [r.id] := kept.sched_free
    rw [List.map_cons, List.foldl_cons, State.cancelTurn_linked distinct (linked r List.mem_cons_self), ih]
    · rw [wheel, free, List.filter_filter, List.append_assoc, List.singleton_append]
      have others : (fun q : ActionRecord => decide (q.id ∉ rs.map (·.id)) && decide (q.id ≠ r.id)) =
          fun q => decide (q.id ∉ r.id :: rs.map (·.id)) := by
        funext q
        rw [Bool.eq_iff_iff]
        simp only [Bool.and_eq_true, decide_eq_true_eq, List.mem_cons, not_or, ne_eq, and_comm]
      rw [others, State.offerCompletion_cancelled]
      by_cases report : r.report = true
      · rw [if_pos report, List.filter_cons_of_pos (by simpa using report), List.foldl_cons,
          ← State.offerNotice_withPool]
        rfl
      · rw [if_neg report, List.filter_cons_of_neg (by simpa using report)]
        rfl
    · rw [wheel]
      exact distinct.sublist (List.filter_sublist.map _)
    · intro q hq
      rw [wheel]
      refine List.mem_filter.mpr ⟨linked q (List.mem_cons_of_mem _ hq), decide_eq_true fun same => fresh ?_⟩
      exact List.mem_map.mpr ⟨q, hq, same⟩
    · exact rest_once

/-! ## The order of the walk -/

/-- The elements of a list, gathered by a key that each has once, are gathered once. -/
theorem nodup_flatMap_filter {α : Type} {l : List α} (once : l.Nodup) (n : Nat) (key : Nat → α → Prop)
    [∀ k, DecidablePred (key k)] (one : ∀ a ∈ l, ∀ j < n, ∀ k < n, key j a → key k a → j = k) :
    ((List.range n).flatMap fun k => l.filter fun a => decide (key k a)).Nodup := by
  refine List.nodup_flatMap.mpr ⟨fun k _ => once.filter _, ?_⟩
  refine List.nodup_range.pairwise_of_forall_ne fun j hj k hk ne => ?_
  intro a inJ inK
  rw [List.mem_filter] at inJ inK
  exact ne (one a inJ.1 j (List.mem_range.mp hj) k (List.mem_range.mp hk) (of_decide_eq_true inJ.2)
    (of_decide_eq_true inK.2))

/-- The elements of a list, gathered by a key below `n`, are the elements of the list. -/
theorem perm_flatMap_filter {α : Type} [DecidableEq α] {l : List α} (once : l.Nodup) {n : Nat} (key : Nat → α → Prop)
    [∀ k, DecidablePred (key k)] (has : ∀ a ∈ l, ∃ k < n, key k a)
    (one : ∀ a ∈ l, ∀ j < n, ∀ k < n, key j a → key k a → j = k) :
    ((List.range n).flatMap fun k => l.filter fun a => decide (key k a)).Perm l := by
  refine (List.perm_ext_iff_of_nodup (nodup_flatMap_filter once n key one) once).mpr fun a => ?_
  simp only [List.mem_flatMap, List.mem_range, List.mem_filter, decide_eq_true_eq]
  refine ⟨fun ⟨_, _, inL, _⟩ => inL, fun inL => ?_⟩
  obtain ⟨k, below, is⟩ := has a inL
  exact ⟨k, below, inL, is⟩

theorem cancelMatches_iff {selector : Octet} {tag : Half} {channel : Octet}
    (known : selector = 1 ∨ (selector = 2 ∧ channel.toNat ≤ 15) ∨ selector = 3) (e : Station) (r : ActionRecord) :
    cancelMatches selector tag channel e.mask r = true ↔ Cancels e selector tag channel r := by
  rcases known with rfl | ⟨rfl, -⟩ | rfl <;> simp [cancelMatches, Cancels]

theorem toNat_walkIndex (n : SlotNo) {k : Nat} : (slotIndex n + 1 + BitVec.ofNat 8 k).toNat = (n.toNat + 1 + k) % 256 := by
  have one : (1 : BitVec 8).toNat = 1 := rfl
  simp only [slotIndex, BitVec.toNat_add, BitVec.toNat_setWidth, BitVec.toNat_ofNat, one]
  omega

/-- R98: the records of one list after the other, from the list after the current slot's. -/
theorem State.walkOrder_filter (s : State) {p : ActionRecord → Bool} {P : ActionRecord → Prop} [DecidablePred P]
    (is : ∀ r, p r = true ↔ P r) :
    s.walkOrder.filter p = (List.range 256).flatMap fun k =>
      (s.sched.wheel.filter fun r => P r).filter fun r =>
        r.due.toNat % 256 = (s.sched.curSlot.toNat + 1 + k) % 256 := by
  have same : p = fun r => decide (P r) := by
    funext r
    rw [Bool.eq_iff_iff, is, decide_eq_true_iff]
  simp only [State.walkOrder, List.filter_flatMap, State.slotList_eq_filter, toNat_walkIndex, same, List.filter_filter,
    Bool.and_comm]

/-- Settles O34: the walk frees the matching records in its order, and the notices follow in the same order. -/
theorem cancelRemovesTheMatches : Obligations.CancelRemovesTheMatches := by
  intro s h selector tag channel e takes whole known gone walk freed u
  have distinct := whole.distinct
  have wheelOnce : s.sched.wheel.Nodup := distinct.of_map
  have perm : walk.Perm gone := by
    refine perm_flatMap_filter (wheelOnce.filter _)
      (fun k (r : ActionRecord) => r.due.toNat % 256 = (s.sched.curSlot.toNat + 1 + k) % 256) (fun r _ => ?_)
      fun r _ j hj k hk isJ isK => by omega
    exact ⟨(r.due.toNat + 256 * s.sched.curSlot.toNat + 255 - s.sched.curSlot.toNat) % 256, by omega, by omega⟩
  have linked : ∀ r ∈ walk, r ∈ s.sched.wheel := fun r hr => (List.mem_filter.mp (perm.mem_iff.mp hr)).1
  have once : (walk.map (·.id)).Nodup :=
    (perm.map _).nodup_iff.mpr (distinct.sublist (List.filter_sublist.map _))
  have left : (s.sched.wheel.filter fun q => decide (q.id ∉ walk.map (·.id))) =
      s.sched.wheel.filter fun r => ¬ Cancels e selector tag channel r := by
    refine List.filter_congr fun q hq => ?_
    rw [decide_eq_decide, not_iff_not, List.mem_map]
    refine ⟨fun ⟨r, hr, same⟩ => ?_, fun cancels => ⟨q, ?_, rfl⟩⟩
    · rw [← eq_of_id_eq distinct (linked r hr) hq same]
      exact of_decide_eq_true (List.mem_filter.mp (perm.mem_iff.mp hr)).2
    · exact perm.mem_iff.mpr (List.mem_filter.mpr ⟨hq, decide_eq_true cancels⟩)
  have order : s.walkOrder.filter (cancelMatches selector tag channel e.mask) = walk :=
    s.walkOrder_filter (cancelMatches_iff known e)
  have takesAll : s.takeCancel selector tag channel e.mask = (gone.length, u) := by
    rw [State.takeCancel, order, State.foldl_cancelTurn s.lineTime walk s distinct linked once, left, List.length_map,
      perm.length_eq]
    rfl
  have kept : freed.NoticesOnly u :=
    foldl_inv _ freed.NoticesOnly (fun t r so => so.trans (t.offerNotice_noticesOnly _)) _ _ (.refl freed)
  refine ⟨?_, perm, kept.sched_wheel, ?_, kept.sched_curSlot, kept.rx, kept.port, kept.time, kept.cap, kept.out_table,
    kept.addr, kept.owner, kept.cfg, kept.faults_active, fun silent => ?_⟩
  · have answers := State.answer_request_taken (r := .cancel selector tag channel) takes
      ((wellFormed_cancel_iff ..).mpr known) s.lineTime
    have performed : s.perform h e.mask s.lineTime 0 (.cancel selector tag channel) =
        u.answered h .reply (.fixed [BitVec.ofNat 8 (gone.length / 256), BitVec.ofNat 8 gone.length]) := by
      unfold State.perform
      simp only [takesAll, octetsOfNat_eq]
      simp [octetsHigh, List.range_succ]
      rfl
    rw [performed] at answers
    exact answers
  · rw [kept.sched_free]
    show (s.sched.free ++ walk.map ActionRecord.id).length = _
    rw [List.length_append, List.length_map, perm.length_eq]
  · have none : (walk.filter fun r => r.report = true) = [] :=
      List.filter_eq_nil_iff.mpr fun r hr reports =>
        absurd (of_decide_eq_true reports) (by rw [silent r (perm.mem_iff.mp hr)]; decide)
    have same : u = freed := by
      show List.foldl _ freed (walk.filter fun r => r.report = true) = freed
      rw [none]
      rfl
    rw [same]
    exact ⟨rfl, rfl, rfl, rfl⟩

end Sys2Proof.Machine
end

section
/-! TICK, the capture inputs, the channels and the timers (O50, O51, O53). -/

namespace Sys2Proof.Machine

/-! ## TICK and the inputs -/

theorem getLsbD_oneBit : ∀ m n : Fin 8, ((1 : BitVec 8) <<< n.val).getLsbD m.val = decide (m = n) := by decide

theorem getLsbD_setPin (pins : BitVec 8) (n m : Fin 8) (level : Bool) :
    (setPin pins n level).getLsbD m.val = if m = n then level else pins.getLsbD m.val := by
  have bit := getLsbD_oneBit m n
  cases level with
  | true => rw [setPin, if_pos rfl, BitVec.getLsbD_or, bit]; by_cases same : m = n <;> simp [same]
  | false =>
    rw [setPin, if_neg (by decide), BitVec.getLsbD_and, BitVec.getLsbD_not, bit]
    by_cases same : m = n <;> simp [same]

theorem filterTicks (t : Octet) : BitVec.ofNat 48 (4 * t.toNat) = t.setWidth 48 * 4 := by
  have four : (4 : BitVec 48).toNat = 4 := rfl
  refine BitVec.eq_of_toNat_eq ?_
  rw [BitVec.toNat_ofNat, BitVec.toNat_mul, BitVec.toNat_setWidth, four]
  omega

/-- R142, R144: what a filter sees, by the level and the candidate. -/
theorem LineFilter.see_eq (f : LineFilter) (now : Ticks) (filterTime : Octet) (level : Bool) :
    f.see now filterTime level =
      if level = f.filtered then { f with candidate := none }
      else if f.candidate.isSome then f
      else { f with candidate := some { level := level, start := now,
                                        duration := BitVec.ofNat 48 (4 * filterTime.toNat) } } := by
  obtain ⟨filtered, candidate⟩ := f
  rw [filterTicks]
  cases candidate <;> rfl

theorem CaptureUnit.firstSample_sampled {c : CaptureUnit} (sampled : c.sampled = true) : c.firstSample = c :=
  if_pos sampled

theorem CaptureUnit.firstSample_first {c : CaptureUnit} (first : c.sampled = false) : c.firstSample = { c with
    sampled := true, lines := Vector.ofFn fun n => { filtered := c.pins.getLsbD n.val, candidate := none } } :=
  if_neg (by rw [first]; decide)

/-- Settles O50: a tick, and one input's level. -/
theorem tickAndInputsAreSampled : Obligations.TickAndInputsAreSampled := by
  intro s up later
  have ticks : exec .tick s = .next ((s.setTime later).setCap s.cap.firstSample) := answer_up up
  refine ⟨fun sampled => ?_, fun first => ?_, fun t is => ?_, fun n level =>
    ⟨setPin s.cap.pins n level, fun m => getLsbD_setPin .., fun first => ?_, fun sampled => ?_⟩⟩
  · rw [ticks, CaptureUnit.firstSample_sampled sampled]
    rfl
  · rw [ticks, CaptureUnit.firstSample_first first]
    rfl
  · rw [ticks] at is
    cases is
    show s.time.localCount + 1 + s.time.offset = s.time.localCount + s.time.offset + 1
    ac_rfl
  · refine (answer_up up).trans (congrArg _ ?_)
    exact if_neg (by rw [first]; decide)
  · refine (answer_up up).trans (congrArg _ ((if_pos sampled).trans ?_))
    rw [LineFilter.see_eq]
    rfl

/-! ## Channels -/

/-- A timer that runs and whose instant has been reached, one that does not, and one that is stopped. -/
theorem State.timerDue_some (s : State) {due : Ticks} (elapsed : s.At due) : s.timerDue (some due) = true :=
  (reached_iff s due).mpr elapsed

theorem State.timerDue_before (s : State) {timer : Option Ticks}
    (early : timer = none ∨ ∃ due, timer = some due ∧ ¬ s.At due) : ¬ s.timerDue timer = true := by
  obtain rfl | ⟨due, rfl, before⟩ := early
  · exact Bool.false_ne_true
  · exact fun elapsed => before ((reached_iff s due).mp elapsed)

/-- Settles O51: the four actions, and the expiry of a pulse. -/
theorem actionsAndPulsesOnChannels : Obligations.ActionsAndPulsesOnChannels := by
  refine fun s => ⟨?_, fun n up => ?_⟩
  · intro r c
    have acted : actOn s.time.localCount r.action r.tag s.out.chans[r.channel] = c := by
      show _ = ChannelState.mk _ _ _
      cases action : r.action with
      | set => rfl
      | clear => rfl
      | toggle => rfl
      | pulse w => rw [actOn, ← BitVec.ofNat_toNat]
    rw [State.applyAction, acted]
    rfl
  · have stays (early : s.out.chans[n].pulseEnd = none ∨ ∃ due, s.out.chans[n].pulseEnd = some due ∧ ¬ s.At due) :
        exec (.pulseExpiry n) s = .next s :=
      (answer_up up).trans (congrArg _ (if_neg (s.timerDue_before early)))
    refine ⟨fun ends pulse elapsed => ?_, fun ends pulse before => stays (.inr ⟨ends, pulse, before⟩),
      fun none => stays (.inl none)⟩
    exact (answer_up up).trans (congrArg _ (if_pos (by rw [pulse]; exact s.timerDue_some elapsed)))

/-! ## The timers of the Time Base -/

/-- Settles O53: the two timers. -/
theorem syncTimersExpire : Obligations.SyncTimersExpire := by
  intro s up lost
  have timeout {due : Ticks} (runs : s.time.syncTimer = some due) (elapsed : s.At due) :
      exec .syncTimeoutExpiry s = .next s.syncTimeout :=
    (answer_up up).trans (congrArg _ (if_pos (by rw [runs]; exact s.timerDue_some elapsed)))
  refine ⟨fun due runs elapsed => ⟨fun acquiring => ?_, fun locked => ?_⟩, fun early => ?_,
    fun due runs elapsed holdover => ?_, fun early => ?_⟩
  · rw [timeout runs elapsed, State.syncTimeout, acquiring]
    rfl
  · rw [timeout runs elapsed, State.syncTimeout, locked]
    rfl
  · exact (answer_up up).trans (congrArg _ (if_neg (s.timerDue_before early)))
  · have ends : exec .holdoverExpiry s = .next s.holdoverEnd.settle :=
      (answer_up up).trans (congrArg _ (if_pos (by rw [runs]; exact s.timerDue_some elapsed)))
    rw [ends, State.holdoverEnd, holdover]
    rfl
  · exact (answer_up up).trans (congrArg _ (if_neg (s.timerDue_before early)))

end Sys2Proof.Machine
end

section
/-! The Output Port: the end of an event (O58) and the transmitter's cycle (O59). -/

namespace Sys2Proof.Machine

/-! ## Placing the NOTICE descriptor -/

/-- R38, R173: the conditions for placing a NOTICE descriptor. -/
def State.NoticeWaits (s : State) : Prop :=
  s.notices.queue ≠ [] ∧ s.notices.outstanding = false ∧ s.port.replies.length ≤ 6

theorem State.placeNotice_waits {s : State} (waits : s.NoticeWaits) :
    s.placeNotice = (s.queueReply noticeDesc).setNotices { s.notices with outstanding := true } := by
  rcases s.placeNotice_cases with ⟨-, -, -, placed⟩ | ⟨quiet, -⟩
  · exact placed
  · exact absurd waits quiet

theorem State.placeNotice_quiet {s : State} (quiet : ¬ s.NoticeWaits) : s.placeNotice = s := by
  rcases s.placeNotice_cases with ⟨some, clear, room, -⟩ | ⟨-, same⟩
  · exact absurd ⟨some, clear, room⟩ quiet
  · exact same

/-- The same descriptor is not placed twice. -/
theorem State.placeNotice_placeNotice (s : State) : s.placeNotice.placeNotice = s.placeNotice := by
  by_cases waits : s.NoticeWaits
  · refine State.placeNotice_quiet ?_
    rw [State.placeNotice_waits waits]
    exact fun again => Bool.noConfusion again.2.1
  · rw [State.placeNotice_quiet waits, State.placeNotice_quiet waits]

theorem State.placeNotice_tx (s : State) : s.placeNotice.port.tx = s.port.tx := by
  by_cases waits : s.NoticeWaits
  · rw [State.placeNotice_waits waits]; rfl
  · rw [State.placeNotice_quiet waits]

theorem State.placeNotice_forward (s : State) : s.placeNotice.port.forward = s.port.forward := by
  by_cases waits : s.NoticeWaits
  · rw [State.placeNotice_waits waits]; rfl
  · rw [State.placeNotice_quiet waits]

theorem State.placeNotice_choices (s : State) : s.placeNotice.choices = s.choices := by
  by_cases waits : s.NoticeWaits
  · rw [State.placeNotice_waits waits]; rfl
  · rw [State.placeNotice_quiet waits]

theorem State.placeNotice_replies_ne {s : State} (waiting : s.port.replies ≠ []) : s.placeNotice.port.replies ≠ [] := by
  by_cases waits : s.NoticeWaits
  · rw [State.placeNotice_waits waits]
    exact List.append_ne_nil_of_left_ne_nil waiting _
  · rwa [State.placeNotice_quiet waits]

/-! ## The IDLE start, by what waits (R40) -/

theorem State.idleStart_nothing {s : State} (idle : s.port.tx = .idle) (forward : s.port.forward = [])
    (replies : s.port.replies = []) : s.idleStart = s := by
  rw [State.idleStart, idle, forward, replies]

theorem State.idleStart_forward {s : State} (idle : s.port.tx = .idle) (forward : s.port.forward ≠ [])
    (replies : s.port.replies = []) : s.idleStart = s.startForward 0 := by
  obtain ⟨f, rest, is⟩ := List.exists_cons_of_ne_nil forward
  rw [State.idleStart, idle, is, replies]

theorem State.idleStart_reply {s : State} (idle : s.port.tx = .idle) (forward : s.port.forward = [])
    (replies : s.port.replies ≠ []) : s.idleStart = s.startReply := by
  obtain ⟨d, rest, is⟩ := List.exists_cons_of_ne_nil replies
  rw [State.idleStart, idle, forward, is]

theorem State.restartReplyWaits_cons {s : State} {d : ReplyDesc} {rest : List ReplyDesc}
    (replies : s.port.replies = d :: rest) : s.restartReplyWaits = d.restartReply := by
  rw [State.restartReplyWaits, replies]

theorem State.idleStart_both {s : State} {d : ReplyDesc} {rest : List ReplyDesc} (idle : s.port.tx = .idle)
    (forward : s.port.forward ≠ []) (replies : s.port.replies = d :: rest) :
    s.idleStart = if d.restartReply then s.startReply
      else if Config.idleReplyFirst s.choices then (s.setChoices (s.choices + 1)).startReply
      else (s.setChoices (s.choices + 1)).startForward 0 := by
  obtain ⟨f, more, is⟩ := List.exists_cons_of_ne_nil forward
  rw [State.idleStart, State.restartReplyWaits_cons replies, idle, is, replies]

/-! ## The end of an event -/

theorem State.settle_busy {s : State} (busy : s.port.tx ≠ .idle) : s.settle = s.placeNotice := by
  rw [State.settle, State.idleStart_busy (by rw [s.placeNotice_tx]; exact busy), s.placeNotice_placeNotice]

theorem State.settle_reply {s : State} (idle : s.port.tx = .idle) (forward : s.port.forward = [])
    (replies : s.placeNotice.port.replies ≠ []) : s.settle = s.placeNotice.startReply.placeNotice := by
  rw [State.settle, State.idleStart_reply (s.placeNotice_tx.trans idle) (s.placeNotice_forward.trans forward) replies]

theorem State.settle_both {s : State} {d : ReplyDesc} {rest : List ReplyDesc} (idle : s.port.tx = .idle)
    (forward : s.port.forward ≠ []) (replies : s.placeNotice.port.replies = d :: rest) :
    (d.restartReply = true → s.settle = s.placeNotice.startReply.placeNotice) ∧
    (d.restartReply = false →
      s.settle = (s.placeNotice.setChoices (s.choices + 1)).startReply.placeNotice ∨
      s.settle = ((s.placeNotice.setChoices (s.choices + 1)).startForward 0).placeNotice) := by
  have starts := State.idleStart_both (s.placeNotice_tx.trans idle) (by rw [s.placeNotice_forward]; exact forward) replies
  rw [s.placeNotice_choices] at starts
  refine ⟨fun restart => ?_, fun plain => ?_⟩
  · rw [State.settle, starts, if_pos restart]
  · rw [if_neg (by rw [plain]; decide)] at starts
    cases first : Config.idleReplyFirst s.choices with
    | true => exact .inl (by rw [State.settle, starts, if_pos first])
    | false => exact .inr (by rw [State.settle, starts, if_neg (by rw [first]; decide)])

/-- Settles O58: the end of an event, by the transmitter's state and what waits. -/
theorem noticesArePlacedAndIdleStarts : Obligations.NoticesArePlacedAndIdleStarts := by
  intro s waits desc placed
  have row (up : s.resetHeld = false) : exec .noticeDescriptorPlace s = .next s.settle := answer_up up
  have isPlaced (w : waits) : s.placeNotice = placed := State.placeNotice_waits w
  have quiet (w : ¬ waits) : s.placeNotice = s := State.placeNotice_quiet w
  refine ⟨fun up => ?_, row, isPlaced, quiet, State.settle_busy,
    fun idle forward replies => State.settle_reply idle forward (State.placeNotice_replies_ne replies),
    fun idle forward d rest replies => State.settle_both idle forward replies,
    s.settle_resetHeld, s.settle_rate, s.settle_rx, s.settle_time, s.settle_sched, s.settle_out, s.settle_faults,
    s.settle_addr, s.settle_owner, s.settle_cfg, s.settle_pending, s.settle_portOnly.cap⟩
  rw [row up]
  refine ⟨fun busy => ?_, fun idle forward replies => ⟨fun w => ?_, fun w => ?_⟩, fun idle w =>
    ⟨fun forward replies => ?_, fun forward replies => ?_⟩⟩
  · rw [State.settle_busy busy]
    exact ⟨fun w => congrArg _ (isPlaced w), fun w => congrArg _ (quiet w)⟩
  · have some : s.placeNotice.port.replies ≠ [] := by
      rw [isPlaced w]
      exact List.append_ne_nil_of_right_ne_nil _ (List.cons_ne_nil _ _)
    rw [State.settle_reply idle forward some, isPlaced w]
  · rw [State.settle, quiet w, State.idleStart_nothing idle forward replies, quiet w]
  · rw [State.settle, quiet w, State.idleStart_forward idle forward replies]
  · rw [State.settle, quiet w, State.idleStart_reply idle forward replies]

/-! ## The transmitter's cycle -/

/-- R41: the arbiter's choice, by what waits. -/
theorem State.arbitrate_nothing {s : State} (forward : s.port.forward = []) (replies : s.port.replies = []) :
    s.arbitrate = s.setPort { s.port with tx := .idle } := by
  rw [State.arbitrate, forward, replies]

theorem State.arbitrate_forward {s : State} (forward : s.port.forward ≠ []) (replies : s.port.replies = []) :
    s.arbitrate = s.startForward 0 := by
  obtain ⟨f, rest, is⟩ := List.exists_cons_of_ne_nil forward
  rw [State.arbitrate, is, replies]

theorem State.arbitrate_reply {s : State} (forward : s.port.forward = []) (replies : s.port.replies ≠ []) :
    s.arbitrate = s.startReply := by
  obtain ⟨d, rest, is⟩ := List.exists_cons_of_ne_nil replies
  rw [State.arbitrate, forward, is]

theorem State.arbitrate_both {s : State} {d : ReplyDesc} {rest : List ReplyDesc} (forward : s.port.forward ≠ [])
    (replies : s.port.replies = d :: rest) :
    s.arbitrate = if d.restartReply then s.startReply
      else if s.cfg.arbiterRatio ≤ s.port.credit then s.startReply else s.startForward (s.port.credit + 1) := by
  obtain ⟨f, more, is⟩ := List.exists_cons_of_ne_nil forward
  rw [State.arbitrate, State.restartReplyWaits_cons replies, is, replies]

/-- Settles O59: the end of a transmission and the end of the gap. -/
theorem transmitterCycle : Obligations.TransmitterCycle := by
  intro s up gap
  have ends {t : State} (marked : s.sendingMarked = false) (done : s.sendingDone = true)
      (is : s.returnSentBuffer.enterGap = t) : exec .feSent s = .next t := by
    refine (answer_up up).trans (congrArg _ ((if_pos done).trans ?_))
    exact (if_neg (by rw [marked]; decide)).trans is
  have before (early : ¬ s.sendingDone = true) : exec .feSent s = .next s :=
    (answer_up up).trans (congrArg _ (if_neg early))
  have chooses {e : Ticks} {t : State} (waiting : s.port.tx = .gap e) (reaches : s.At e) (is : s.arbitrate = t) :
      exec .gapEnd s = .next t.settle := by
    refine (answer_up up).trans (congrArg _ ?_)
    rw [waiting, ← is]
    exact if_pos ((reached_iff s e).mpr reaches)
  refine ⟨fun octets doneAt reaches => ⟨fun f rest sending forward unmarked => ?_, fun sending => ?_⟩,
    fun octets doneAt mark early sending => ?_, fun e waiting early => ?_, fun e waiting reaches =>
      ⟨fun forward replies => chooses waiting reaches (State.arbitrate_nothing forward replies),
        fun forward replies => chooses waiting reaches (State.arbitrate_forward forward replies),
        fun forward replies => chooses waiting reaches (State.arbitrate_reply forward replies),
        fun d rest forward replies => ⟨fun reply => ?_, fun plain credit => ?_⟩⟩⟩
  · refine ends ?_ ?_ ?_
    · rw [State.sendingMarked, sending, forward]
      exact unmarked
    · rw [State.sendingDone, sending]
      exact (reached_iff s doneAt).mpr reaches
    · rw [State.returnSentBuffer, sending, forward]
      rfl
  · refine ends ?_ ?_ ?_
    · rw [State.sendingMarked, sending]
    · rw [State.sendingDone, sending]
      exact (reached_iff s doneAt).mpr reaches
    · rw [State.returnSentBuffer, sending]
      rfl
  · refine before fun done => early ?_
    obtain sending | sending := sending <;> rw [State.sendingDone, sending] at done <;>
      exact (reached_iff s doneAt).mp done
  · refine (answer_up up).trans (congrArg _ ?_)
    rw [waiting]
    exact if_neg fun reaches => early ((reached_iff s e).mp reaches)
  · refine chooses waiting reaches ((State.arbitrate_both forward replies).trans ?_)
    split
    · rfl
    · exact if_pos (reply.resolve_left ‹_›)
  · refine chooses waiting reaches ((State.arbitrate_both forward replies).trans ?_)
    rw [if_neg (by rw [plain]; decide), if_neg (by omega)]

end Sys2Proof.Machine
end

section
/-! Offers, raises and the LINE_ERRORS condition (O54). -/

namespace Sys2Proof.Machine

theorem markNewest_append (q : List Notice) (n : Notice) : markNewest (q ++ [n]) = q ++ [{ n with overflow := true }] := by
  induction q with
  | nil => rfl
  | cons m q ih =>
    cases q with
    | nil => rfl
    | cons k q => exact congrArg (m :: ·) ih

/-- R162: the Response of a kind, as the configuration stands. -/
theorem State.respond_eq (s : State) (k : FaultKind) :
    s.respond k = if s.cfg.responses[k.code] = .freeze then s.freezeResponse else s := by
  rw [State.respond, State.responseOf]
  cases s.cfg.responses[k.code] <;> rfl

/-! R161: a raise, by the flag and by FaultNotices. -/

theorem State.raise_latched {s : State} {k : FaultKind} (latched : s.isLatched k = true) (time : Ticks) :
    s.raise k time = s :=
  if_pos latched

theorem State.raise_noticed {s : State} {k : FaultKind} (clear : s.isLatched k = false)
    (notices : s.cfg.faultNotices = true) (time : Ticks) :
    s.raise k time = ((s.latch k).offerNotice (.fault k time)).respond k := by
  refine (if_neg (by rw [clear]; decide)).trans ?_
  exact congrArg (State.respond · k) (if_pos notices)

theorem State.raise_silent {s : State} {k : FaultKind} (clear : s.isLatched k = false)
    (silent : s.cfg.faultNotices = false) (time : Ticks) : s.raise k time = (s.latch k).respond k := by
  refine (if_neg (by rw [clear]; decide)).trans ?_
  exact congrArg (State.respond · k) (if_neg (show ¬ s.cfg.faultNotices = true by rw [silent]; decide))

/-! R117: a completion notice, by Report and ReportAbnormal. -/

theorem ActionOutcome.abnormal_iff (o : ActionOutcome) :
    o.abnormal = true ↔ o ∈ [ActionOutcome.late, .suppressed, .disabled, .expired, .dropped] := by
  cases o <;> decide

theorem completionReported_iff (s : State) (r : ActionRecord) (o : ActionOutcome) :
    (r.report || (o.abnormal && s.cfg.reportAbnormal)) = true ↔
      (r.report = true ∨
        (o ∈ [ActionOutcome.late, .suppressed, .disabled, .expired, .dropped] ∧ s.cfg.reportAbnormal = true)) := by
  rw [Bool.or_eq_true, Bool.and_eq_true, ActionOutcome.abnormal_iff]

/-- Settles O54: the offer, the raise, the completion notice and the condition. -/
theorem offersAndRaises : Obligations.OffersAndRaises := by
  intro s responds latching
  have answers {t : State} (cfg : t.cfg = s.cfg) (k : FaultKind) : t.respond k = responds t k := by
    rw [State.respond_eq, cfg]
  refine ⟨fun b room => State.offerNotice_room room b, fun b q n queue full => ?_, fun k time =>
    ⟨fun latched => State.raise_latched latched time, fun clear => ⟨fun notices => ?_, fun silent => ?_⟩⟩,
    fun r o time => ⟨fun reported => if_pos ((completionReported_iff s r o).mpr reported),
      fun silent => if_neg fun reported => silent ((completionReported_iff s r o).mp reported)⟩,
    fun above clear => ?_, fun above active => (if_pos above).trans (if_pos active), fun below => if_neg (by omega)⟩
  · have isMarked : s.setNotices { s.notices with queue := markNewest s.notices.queue } =
        { s with notices := { s.notices with queue := q ++ [{ n with overflow := true }] } } := by
      rw [queue, markNewest_append]
      rfl
    refine ⟨fun latched => (State.offerNotice_full (by omega) latched b).trans isMarked, fun clear => ?_⟩
    rw [State.offerNotice_overflow (by omega) (by rw [State.isLatched]; exact Bool.eq_false_iff.mp clear), isMarked]
    refine answers ?_ _
    rfl
  · rw [State.raise_noticed clear notices]
    refine answers ?_ k
    exact (State.offerNotice_noticesOnly (s.latch k) _).cfg
  · rw [State.raise_silent clear silent]
    refine answers ?_ k
    rfl
  · exact (if_pos above).trans (if_neg (by rw [State.isActive]; exact Bool.eq_false_iff.mp clear))

end Sys2Proof.Machine
end

section
/-! Releases: what one turn of a walk does, and SLOT_BOUNDARY (O55). -/

namespace Sys2Proof.Machine

/-! ## A record at its place in the wheel -/

section
variable {t : State} {before after : List ActionRecord} {r : ActionRecord}

theorem State.findRecord_at (wheel : t.sched.wheel = before ++ r :: after) (first : ∀ x ∈ before, x.id ≠ r.id) :
    t.findRecord r.id = some r := by
  have absent : before.find? (fun x => decide (x.id = r.id)) = none :=
    List.find?_eq_none.mpr fun x hx same => first x hx (of_decide_eq_true same)
  rw [State.findRecord, wheel, List.find?_append, absent, Option.none_or, List.find?_cons_of_pos (by simp)]

theorem eraseP_at (first : ∀ x ∈ before, x.id ≠ r.id) :
    (before ++ r :: after).eraseP (fun x => decide (x.id = r.id)) = before ++ after := by
  rw [List.eraseP_append_right _ fun x hx same => first x hx (of_decide_eq_true same),
    List.eraseP_cons_of_pos (by simp)]

/-- R69, R73: the record freed, on a state with the same Scheduler. -/
theorem State.freeRecord_at {d : State} (sched : d.sched = t.sched) (wheel : t.sched.wheel = before ++ r :: after)
    (first : ∀ x ∈ before, x.id ≠ r.id) :
    d.freeRecord r.id = d.setSched { t.sched with free := t.sched.free ++ [r.id], wheel := before ++ after } := by
  rw [State.freeRecord_eq, sched, wheel, eraseP_at first, State.withPool, sched]

/-- R70: the room of a list. -/
theorem State.listHasPlace_eq (s : State) (due : SlotNo) : s.listHasPlace due =
    decide ((s.sched.wheel.filter fun x => x.due.toNat % 256 = due.toNat % 256).length < 32) := by
  have index : (slotIndex due).toNat = due.toNat % 256 := ((slotIndex_eq_iff due (slotIndex due)).mp rfl).symm
  rw [State.listHasPlace, State.slotList_eq_filter, index]

/-- R72: the record moved, on a state with the same Scheduler, as its new list has a place. -/
theorem State.relink_at {d : State} {kept : ActionRecord} (sched : d.sched = t.sched)
    (wheel : t.sched.wheel = before ++ r :: after) (first : ∀ x ∈ before, x.id ≠ r.id) (id : kept.id = r.id)
    (due : SlotNo) :
    d.relink kept due =
      if ((before ++ after).filter fun x => x.due.toNat % 256 = due.toNat % 256).length < 32 then
        some (d.setSched { t.sched with wheel := before ++ after ++ [{ kept with due := due }] })
      else none := by
  have left : (d.unlink kept.id).sched = { t.sched with wheel := before ++ after } := by
    have unlinked : (d.unlink kept.id).sched =
        { d.sched with wheel := d.sched.wheel.eraseP fun x => x.id = kept.id } := rfl
    rw [unlinked, sched, wheel, id, eraseP_at first]
  rw [State.relink, State.listHasPlace_eq, left]
  simp only [decide_eq_true_eq]
  rfl

/-! ## One turn (R110 to R114) -/

/-- R111, R112, R121. -/
theorem State.releaseOutcome_eq (s : State) (catchUp : Bool) (r : ActionRecord) : s.releaseOutcome catchUp r =
    if s.sched.state ≠ .running then .suppressed
    else if s.out.table[r.channel].enabled = true then (if catchUp then .late else .done) else .disabled := by
  rw [State.releaseOutcome]
  cases s.sched.state <;> rfl

theorem State.releaseOutcome_own (s : State) (r : ActionRecord) : s.releaseOutcome false r =
    if s.sched.state ≠ .running then .suppressed
    else if s.out.table[r.channel].enabled = true then .done else .disabled :=
  s.releaseOutcome_eq false r

theorem State.drive_released {s : State} {r : ActionRecord} {o : ActionOutcome} (is : s.releaseOutcome false r = o) :
    s.drive r o = if o = .done then s.applyAction r else s := by
  rw [State.releaseOutcome_own] at is
  split_ifs at is <;> subst is <;> rfl

theorem ActionRecord.count_released {s : State} {r : ActionRecord} {o : ActionOutcome} {rest : Remaining}
    (is : s.releaseOutcome false r = o) (less : r.remaining.less 1 = rest) :
    r.count o =
      { r with fired := if o = .suppressed then r.fired else min 65535 (r.fired + 1), remaining := rest } := by
  subst less
  rw [State.releaseOutcome_own] at is
  split_ifs at is <;> subst is <;> rfl

/-- Which records an outcome spends: those that it counts and that have one firing left. -/
theorem Remaining.spent_less_one {m : Remaining} (some : m ≠ .times 0) : (m.less 1).spent = decide (m = .times 1) := by
  cases m with
  | unlimited => rfl
  | times n =>
    have pos : n ≠ 0 := fun zero => some (congrArg _ zero)
    simp only [Remaining.less, Remaining.spent, Remaining.times.injEq, decide_eq_decide]
    omega

theorem State.releaseTurn_at (wheel : t.sched.wheel = before ++ r :: after) (first : ∀ x ∈ before, x.id ≠ r.id)
    (time : Ticks) : State.releaseTurn time t r.id = t.releaseOne time r := by
  rw [State.releaseTurn, State.findRecord_at wheel first]

/-- R114: the state in which the record has been released and freed. -/
def State.releasedFree (t : State) (before after : List ActionRecord) (r : ActionRecord) (o : ActionOutcome) : State :=
  (t.drive r o).setSched { t.sched with free := t.sched.free ++ [r.id], wheel := before ++ after }

theorem State.releaseTurn_spent {o : ActionOutcome} (wheel : t.sched.wheel = before ++ r :: after)
    (first : ∀ x ∈ before, x.id ≠ r.id) (is : t.releaseOutcome false r = o) (spent : (r.count o).remaining.spent = true)
    (time : Ticks) :
    State.releaseTurn time t r.id = (t.releasedFree before after r o).offerCompletion (r.count o) o time := by
  rw [State.releaseTurn_at wheel first, State.releaseOne]
  simp only [is, spent, if_true]
  rw [State.freeRecord_at (t.drive_sched r o) wheel first]
  rfl

theorem State.releaseTurn_kept {o : ActionOutcome} (wheel : t.sched.wheel = before ++ r :: after)
    (first : ∀ x ∈ before, x.id ≠ r.id) (is : t.releaseOutcome false r = o) (left : (r.count o).remaining.spent = false)
    (time : Ticks) {next : SlotNo} (step : (r.count o).due + BitVec.ofNat 32 (r.count o).step = next) :
    (((before ++ after).filter fun x => x.due.toNat % 256 = next.toNat % 256).length < 32 →
      State.releaseTurn time t r.id = ((t.drive r o).setSched { t.sched with
        wheel := before ++ after ++ [{ r.count o with due := next }] }).offerCompletion (r.count o) o time) ∧
    (32 ≤ ((before ++ after).filter fun x => x.due.toNat % 256 = next.toNat % 256).length →
      State.releaseTurn time t r.id =
        (((t.releasedFree before after r o).offerCompletion (r.count o) o time).offerCompletion (r.count o) .dropped
          time).raise .repeatDropped time) := by
  have turn := State.releaseTurn_at wheel first time
  rw [State.releaseOne] at turn
  simp only [is, left, step, State.relink_at (t.drive_sched r o) wheel first (r.count_id o) next,
    State.freeRecord_at (t.drive_sched r o) wheel first, Bool.false_eq_true, if_false] at turn
  refine ⟨fun room => ?_, fun full => ?_⟩
  · rw [turn, if_pos room]
  · rw [turn, if_neg (by omega)]
    rfl

end

/-! ## The walk of a slot -/

theorem State.walkSlot_eq (s : State) (n : SlotNo) (time : Ticks) : s.walkSlot n time =
    ((s.sched.wheel.filter fun r => r.due = n).map ActionRecord.id).foldl (State.releaseTurn time) s := by
  have list : ((s.slotList (slotIndex n)).filter fun r => decide (r.due = n)) =
      s.sched.wheel.filter fun r => decide (r.due = n) := by
    rw [State.slotList, List.filter_filter]
    refine List.filter_congr fun r _ => ?_
    rw [Bool.eq_iff_iff, Bool.and_eq_true, decide_eq_true_iff, decide_eq_true_iff]
    exact ⟨And.left, fun same => ⟨same, congrArg slotIndex same⟩⟩
  rw [State.walkSlot, list]

/-- R78, R110: an expiry in HALTED, and otherwise. -/
theorem State.slotExpiry_halted {s : State} (halted : s.sched.state = .halted) (n : SlotNo) (time : Ticks) :
    s.slotExpiry n time = s.setSlot n := by
  rw [State.slotExpiry, show (s.setSlot n).sched.state = .halted from halted]

theorem State.slotExpiry_live {s : State} (live : s.sched.state ≠ .halted) (n : SlotNo) (time : Ticks) :
    s.slotExpiry n time = (s.setSlot n).walkSlot n time := by
  rw [State.slotExpiry, show (s.setSlot n).sched.state = s.sched.state from rfl]
  cases state : s.sched.state with
  | halted => exact absurd state live
  | running => rfl
  | frozen => rfl

/-! ## The first tick of a slot -/

theorem slotOf_shiftLeft {k : Nat} (hk : k ≤ 16) (x : Ticks) : slotOf k (x <<< k) = x.setWidth 32 := by
  refine BitVec.eq_of_getLsbD_eq fun i hi => ?_
  simp only [slotOf, BitVec.getLsbD_setWidth, BitVec.getLsbD_ushiftRight, BitVec.getLsbD_shiftLeft]
  have inside : k + i < 48 := by omega
  have above : ¬ k + i < k := by omega
  rw [decide_eq_true inside, decide_eq_false above, Nat.add_sub_cancel_left]
  simp

theorem setWidth_sub_slot (x : Ticks) (n : SlotNo) : (x - n.setWidth 48).setWidth 32 = x.setWidth 32 - n := by
  bv_omega

/-- R118: the first tick of slot `n` lies in slot `n`, at its start. -/
theorem firstTickOf_spec {k : Nat} (hk : k ≤ 16) (t : Ticks) (n : SlotNo) :
    slotOf k (firstTickOf k t n) = n ∧ (firstTickOf k t n).toNat % 2 ^ k = 0 := by
  refine ⟨?_, ?_⟩
  · rw [firstTickOf, slotOf_shiftLeft hk, setWidth_sub_slot]
    show slotOf k t - (slotOf k t - n) = n
    exact sub_sub_cancel _ _
  · have divides : 2 ^ k ∣ 2 ^ 48 := Nat.pow_dvd_pow 2 (by omega)
    rw [firstTickOf, BitVec.toNat_shiftLeft, Nat.shiftLeft_eq, Nat.mod_mod_of_dvd _ divides, Nat.mul_mod_left]

/-! ## The turn of a record that is due, and SLOT_BOUNDARY -/

/-- R110 to R114: a turn, by whether the record is spent and by the room in its new list. -/
theorem State.releaseTurn_spec {t driven : State} {before after : List ActionRecord} {r counted : ActionRecord}
    {o : ActionOutcome} (wheel : t.sched.wheel = before ++ r :: after) (first : ∀ x ∈ before, x.id ≠ r.id)
    (is : t.releaseOutcome false r = o) (drives : t.drive r o = driven) (counts : r.count o = counted) (time : Ticks) :
    (r.remaining = .times 1 → State.releaseTurn time t r.id = (driven.setSched { t.sched with
      free := t.sched.free ++ [r.id], wheel := before ++ after }).offerCompletion counted o time) ∧
    ∀ p, r.remaining ≠ .times 1 → r.remaining ≠ .times 0 → r.period = some p →
      (((before ++ after).filter fun x =>
          x.due.toNat % 256 = (r.due + BitVec.ofNat 32 p.toNat).toNat % 256).length < 32 →
        State.releaseTurn time t r.id = (driven.setSched { t.sched with
          wheel := before ++ after ++ [{ counted with due := r.due + BitVec.ofNat 32 p.toNat }] }).offerCompletion
            counted o time) ∧
      (32 ≤ ((before ++ after).filter fun x =>
          x.due.toNat % 256 = (r.due + BitVec.ofNat 32 p.toNat).toNat % 256).length →
        State.releaseTurn time t r.id = (((driven.setSched { t.sched with
          free := t.sched.free ++ [r.id], wheel := before ++ after }).offerCompletion counted o time).offerCompletion
            counted .dropped time).raise .repeatDropped time) := by
  have form := ActionRecord.count_released is rfl
  subst drives counts
  refine ⟨fun last => ?_, fun p more some period => ?_⟩
  · refine State.releaseTurn_spent wheel first is ?_ time
    rw [form, last]
    rfl
  · refine State.releaseTurn_kept wheel first is ?_ time ?_
    · rw [form]
      exact (Remaining.spent_less_one some).trans (decide_eq_false more)
    · rw [form, ActionRecord.step, period]
      rfl

theorem exec_slotBoundary {s : State} (up : s.resetHeld = false) (ahead : 1 ≤ slotDistance s.sched.curSlot s.slotNow) :
    exec .slotBoundary s = .next (s.slotExpiry (s.sched.curSlot + 1)
      (firstTickOf s.cfg.slotExp s.lineTime (s.sched.curSlot + 1))).settle :=
  (answer_up up).trans (congrArg _ (if_pos ahead))

/-- Settles O55: the turn, the expiry of a slot, and the row. -/
theorem slotBoundaryReleases : Obligations.SlotBoundaryReleases := by
  refine ⟨?_, fun s n time => ⟨fun halted => State.slotExpiry_halted halted n time, fun live => ?_⟩,
    ?_⟩
  · intro t time before after r wheel first o driven counted
    have is : t.releaseOutcome false r = o := t.releaseOutcome_own r
    exact State.releaseTurn_spec wheel first is (State.drive_released is)
      (ActionRecord.count_released is (by cases r.remaining <;> rfl)) time
  · exact (State.slotExpiry_live live n time).trans (State.walkSlot_eq _ n time)
  · intro s up n tick ahead
    refine ⟨fun none => ?_, fun reached => ⟨fun _ upper => firstTickOf_spec upper _ _, ?_, fun live => ?_, ?_⟩⟩
    · exact (answer_up up).trans (congrArg _ (if_neg (by show ¬ 1 ≤ ahead; omega)))
    · rw [exec_slotBoundary up reached]
      rintro (halted | none)
      · rw [State.slotExpiry_halted halted]
        rfl
      · by_cases halted : s.sched.state = .halted
        · rw [State.slotExpiry_halted halted]
          rfl
        · have empty : (s.sched.wheel.filter fun r => decide (r.due = n)) = [] :=
            List.filter_eq_nil_iff.mpr fun r hr same => none r hr (of_decide_eq_true same)
          rw [State.slotExpiry_live halted, State.walkSlot_eq, show (s.setSlot n).sched.wheel = s.sched.wheel from rfl, empty]
          rfl
    · rw [exec_slotBoundary up reached, State.slotExpiry_live live, State.walkSlot_eq]
      rfl
    · intro before r after live wheel due others o driven counted freed
      have one : (s.sched.wheel.filter fun x => decide (x.due = n)) = [r] := by
        have none (l : List ActionRecord) (part : ∀ x ∈ l, x ∈ before ++ after) :
            (l.filter fun x => decide (x.due = n)) = [] :=
          List.filter_eq_nil_iff.mpr fun x hx same => (others x (part x hx)).1 (of_decide_eq_true same)
        rw [wheel, List.filter_append, none before fun x hx => List.mem_append_left _ hx,
          List.filter_cons_of_pos (p := fun x : ActionRecord => decide (x.due = n)) (decide_eq_true due), none after fun x hx => List.mem_append_right _ hx, List.nil_append]
      have only : exec .slotBoundary s = .next (State.releaseTurn tick (s.setSlot n) r.id).settle := by
        rw [exec_slotBoundary up reached, State.slotExpiry_live live, State.walkSlot_eq,
          show (s.setSlot n).sched.wheel = s.sched.wheel from rfl, one]
        rfl
      have is : (s.setSlot n).releaseOutcome false r = o := by
        rw [State.releaseOutcome_own, show (s.setSlot n).sched.state = s.sched.state from rfl]
        show _ = ite (s.sched.state = .frozen) _ _
        cases state : s.sched.state with
        | halted => exact absurd state live
        | running => rfl
        | frozen => rfl
      have same (v : Scheduler) : ((s.setSlot n).drive r o).setSched v = driven.setSched v := by
        rw [State.drive_released is]
        show _ = (ite (o = .done) _ _ : State).setSched v
        split <;> rfl
      have counts : r.count o = counted := ActionRecord.count_released is (by cases r.remaining <;> rfl)
      have turn := State.releaseTurn_spec (t := s.setSlot n) wheel
        (fun x hx => (others x (List.mem_append_left _ hx)).2) is rfl counts tick
      simp only [same] at turn
      rw [only]
      refine ⟨fun last => ?_, fun p more some period => ⟨fun room => ?_, fun full => ?_⟩⟩
      · rw [turn.1 last]
        rfl
      · rw [(turn.2 p more some period).1 room]
        rfl
      · rw [(turn.2 p more some period).2 full]
        rfl

end Sys2Proof.Machine
end

section
/-! The order in which a forward step hands on the passed records (R120), and what turns leave in the wheel. -/

namespace Sys2Proof.Machine

/-! ## By increasing Due, and then in link order -/

/-- The number of slots from `a` to a record's Due. -/
def ActionRecord.ahead (r : ActionRecord) (a : SlotNo) : Nat := (r.due - a).toNat

theorem insertByDue_append {a : SlotNo} {r : ActionRecord} {far : List ActionRecord}
    (beyond : ∀ x ∈ far, r.ahead a ≤ x.ahead a) (near : List ActionRecord) :
    insertByDue a r (near ++ far) = insertByDue a r near ++ far := by
  induction near with
  | nil =>
    cases far with
    | nil => rfl
    | cons x far => exact if_pos (beyond x List.mem_cons_self)
  | cons y near ih =>
    rw [List.cons_append, insertByDue, insertByDue]
    split
    · rfl
    · rw [ih, List.cons_append]

theorem insertByDue_last {a : SlotNo} {r : ActionRecord} {near : List ActionRecord}
    (within : ∀ x ∈ near, x.ahead a < r.ahead a) : insertByDue a r near = near ++ [r] := by
  induction near with
  | nil => rfl
  | cons y near ih =>
    have closer : ¬ r.ahead a ≤ y.ahead a := Nat.not_le_of_lt (within y List.mem_cons_self)
    refine (if_neg closer).trans ?_
    rw [ih fun x hx => within x (List.mem_cons_of_mem _ hx), List.cons_append]

/-- The records of a list that lie 1 to `n` slots ahead of `a`, slot after slot, each slot in the list's order. -/
def gather (a : SlotNo) (n : Nat) (l : List ActionRecord) : List ActionRecord :=
  (List.range n).flatMap fun k => l.filter fun r => r.ahead a = k + 1

theorem gather_succ (a : SlotNo) (n : Nat) (l : List ActionRecord) :
    gather a (n + 1) l = gather a n l ++ l.filter fun r => r.ahead a = n + 1 := by
  simp [gather, List.range_succ]

theorem mem_gather {a : SlotNo} {n : Nat} {l : List ActionRecord} {r : ActionRecord} :
    r ∈ gather a n l ↔ r ∈ l ∧ 1 ≤ r.ahead a ∧ r.ahead a ≤ n := by
  simp only [gather, List.mem_flatMap, List.mem_range, List.mem_filter, decide_eq_true_eq]
  constructor
  · rintro ⟨k, below, inL, is⟩
    exact ⟨inL, by omega, by omega⟩
  · rintro ⟨inL, low, high⟩
    exact ⟨r.ahead a - 1, by omega, inL, by omega⟩

theorem gather_cons_of_not {a : SlotNo} {n : Nat} {r : ActionRecord} (outside : ¬ (1 ≤ r.ahead a ∧ r.ahead a ≤ n))
    (l : List ActionRecord) : gather a n (r :: l) = gather a n l := by
  rw [gather, gather]
  refine List.flatMap_congr fun k hk => ?_
  have below := List.mem_range.mp hk
  exact List.filter_cons_of_neg (by simp only [decide_eq_true_eq]; omega)

theorem gather_cons {a : SlotNo} {n : Nat} {r : ActionRecord} (low : 1 ≤ r.ahead a) (high : r.ahead a ≤ n)
    (l : List ActionRecord) : gather a n (r :: l) = insertByDue a r (gather a n l) := by
  induction n with
  | zero => omega
  | succ n ih =>
    rw [gather_succ, gather_succ]
    by_cases last : r.ahead a = n + 1
    · rw [gather_cons_of_not (by omega), List.filter_cons_of_pos (by simpa using last), insertByDue_append, insertByDue_last]
      · rw [List.append_assoc, List.singleton_append]
      · intro x hx
        have := (mem_gather.mp hx).2
        omega
      · intro x hx
        have := of_decide_eq_true (List.mem_filter.mp hx).2
        omega
    · rw [ih (by omega), List.filter_cons_of_neg (by simpa using last), insertByDue_append]
      intro x hx
      have := of_decide_eq_true (List.mem_filter.mp hx).2
      omega

/-- R120: the passed records of a step are those gathered from the wheel. -/
theorem State.passedRecords_eq (s : State) (a : SlotNo) (k : Nat) :
    s.passedRecords a k = gather a (k - 1) s.sched.wheel := by
  rw [State.passedRecords]
  generalize s.sched.wheel = l
  induction l with
  | nil => simp [gather]
  | cons r l ih =>
    by_cases passed : 1 ≤ r.ahead a ∧ r.ahead a < k
    · have taken : (decide (1 ≤ (r.due - a).toNat) && decide ((r.due - a).toNat < k)) = true := by
        simpa [ActionRecord.ahead] using passed
      rw [List.filter_cons, if_pos taken, List.foldr_cons, ih, gather_cons passed.1 (by omega)]
    · have left : ¬ (decide (1 ≤ (r.due - a).toNat) && decide ((r.due - a).toNat < k)) = true := by
        simpa [ActionRecord.ahead] using passed
      rw [List.filter_cons, if_neg left, ih, gather_cons_of_not (by omega)]

/-! ## Notices and raises leave the Scheduler where it was -/

/-- What the notices and raises of a turn do to the Scheduler: a FREEZE response at most. -/
structure State.Tells (s t : State) : Prop where
  kept : s.NoticesOnly t
  live : t.sched.state = .halted → s.sched.state = .halted

theorem State.Tells.refl (s : State) : s.Tells s := ⟨.refl s, id⟩

theorem State.Tells.trans {s t u : State} (h : s.Tells t) (k : t.Tells u) : s.Tells u :=
  ⟨h.kept.trans k.kept, h.live ∘ k.live⟩

theorem State.raise_tells (s : State) (k : FaultKind) (time : Ticks) : s.Tells (s.raise k time) :=
  ⟨s.raise_noticesOnly k time, (s.raise_raises k time).freeze.halted⟩

theorem State.offerCompletion_tells (s : State) (r : ActionRecord) (o : ActionOutcome) (time : Ticks) :
    s.Tells (s.offerCompletion r o time) := by
  rw [State.offerCompletion]
  split
  · exact ⟨s.offerNotice_noticesOnly _, (s.offerNotice_raises _).freeze.halted⟩
  · exact .refl s

theorem offerInStep_tells (p : StepState) (r : ActionRecord) (o : ActionOutcome) (time : Ticks) :
    p.1.Tells (offerInStep p r o time).1 := by
  rw [offerInStep]
  split
  · exact (State.offerCompletion_tells _ _ _ _).trans (State.raise_tells _ _ _)
  · exact State.offerCompletion_tells _ _ _ _

/-! ## What a turn leaves in the wheel -/

/-- A turn of record `id`: it leaves the wheel, or comes back as a record that `moves` allows. -/
structure State.Turned (moves : ActionRecord → ActionRecord → Prop) (id : Nat) (s t : State) : Prop where
  curSlot : t.sched.curSlot = s.sched.curSlot
  live : t.sched.state = .halted → s.sched.state = .halted
  wheel : t.sched.wheel = s.sched.wheel.eraseP (fun x => x.id = id) ∨
    ∃ r ∈ s.sched.wheel, r.id = id ∧ ∃ q : ActionRecord, q.id = id ∧ moves r q ∧
      t.sched.wheel = s.sched.wheel.eraseP (fun x => x.id = id) ++ [q]

section
variable {moves : ActionRecord → ActionRecord → Prop} {s t u : State} {id : Nat}

theorem State.Turned.tells (h : s.Turned moves id t) (k : t.Tells u) : s.Turned moves id u := by
  refine ⟨k.kept.sched_curSlot.trans h.curSlot, h.live ∘ k.live, ?_⟩
  rw [k.kept.sched_wheel]
  exact h.wheel

theorem State.Turned.none (absent : s.findRecord id = none) : s.Turned moves id s := by
  refine ⟨rfl, fun h => h, .inl (List.eraseP_of_forall_not fun x hx same => ?_).symm⟩
  exact List.find?_eq_none.mp absent x hx same

/-- R73: after the hand-off of its action a record is freed. -/
theorem State.Turned.freed (s : State) (r : ActionRecord) (o : ActionOutcome) :
    s.Turned moves r.id ((s.drive r o).freeRecord r.id) := by
  have sched := s.drive_sched r o
  rw [State.freeRecord_eq]
  refine ⟨?_, ?_, .inl ?_⟩ <;> simp only [State.withPool, State.setSched_sched, sched]
  exact id

/-- R72: after the hand-off of its action a record is relinked. -/
theorem State.Turned.relinked {r kept : ActionRecord} {o : ActionOutcome} {due : SlotNo} (linked : r ∈ s.sched.wheel)
    (same : kept.id = r.id) (moved : (s.drive r o).relink kept due = some t) (may : moves r { kept with due := due }) :
    s.Turned moves r.id t := by
  have sched := s.drive_sched r o
  rw [(State.relink_eq_some moved).2]
  refine ⟨?_, ?_, .inr ⟨r, linked, rfl, { kept with due := due }, same, may, ?_⟩⟩ <;>
    simp only [State.unlink, State.setSched_sched, sched]
  · exact id
  · rw [same]

end

/-- R114: a released record comes back sound and one Period later. -/
def ReleaseMoves (r q : ActionRecord) : Prop :=
  r.Sound → q.Sound ∧ ∃ p : Octet, p ≠ 0 ∧ q.due = r.due + BitVec.ofNat 32 p.toNat

/-- R65: a sound record steps by 1 to 255 slots. -/
theorem ActionRecord.Sound.step_octet {r : ActionRecord} (sound : r.Sound) : ∃ p : Octet, p ≠ 0 ∧ r.step = p.toNat := by
  obtain ⟨-, -, nonzero, -, -⟩ := sound
  refine ⟨r.period.getD 1, ?_, rfl⟩
  cases period : r.period with
  | none => decide
  | some p => exact fun zero => nonzero (by rw [period]; exact congrArg _ zero)

@[simp] theorem ActionRecord.count_due (r : ActionRecord) (o : ActionOutcome) : (r.count o).due = r.due := by
  cases o <;> rfl

theorem State.releaseOne_turned {s : State} {r : ActionRecord} (linked : r ∈ s.sched.wheel) (time : Ticks) :
    s.Turned ReleaseMoves r.id (s.releaseOne time r) := by
  generalize is : s.releaseOutcome false r = o
  have freed : s.Turned ReleaseMoves r.id ((s.drive r o).freeRecord r.id) := .freed s r o
  rw [State.releaseOne]
  simp only [is]
  split
  · exact freed.tells (State.offerCompletion_tells _ _ _ _)
  · rename_i left
    split
    · rename_i u moved
      refine (State.Turned.relinked linked (r.count_id o) moved fun sound => ?_).tells (State.offerCompletion_tells _ _ _ _)
      have counted : (r.count o).Sound := sound.count (Bool.eq_false_iff.mpr left)
      obtain ⟨p, nonzero, step⟩ := counted.step_octet
      exact ⟨counted, p, nonzero, by rw [step, r.count_due o]⟩
    · exact ((freed.tells (State.offerCompletion_tells _ _ _ _)).tells (State.offerCompletion_tells _ _ _ _)).tells
        (State.raise_tells _ _ _)

theorem State.releaseTurn_turned (time : Ticks) (s : State) (id : Nat) :
    s.Turned ReleaseMoves id (State.releaseTurn time s id) := by
  rw [State.releaseTurn]
  split
  · rename_i r found
    obtain ⟨linked, rfl⟩ := State.findRecord_eq_some found
    exact State.releaseOne_turned linked time
  · exact .none ‹_›

/-- R121, R123: a passed record comes back sound and 1 to 255 slots beyond `b`. -/
def PassMoves (b : SlotNo) (r q : ActionRecord) : Prop :=
  r.Sound → q.Sound ∧ 1 ≤ (q.due - b).toNat ∧ (q.due - b).toNat ≤ 255

/-- R123: the first grid slot beyond `b`. -/
theorem nextGrid_ahead (due b : SlotNo) {p : Octet} (nonzero : p ≠ 0) :
    1 ≤ (due + BitVec.ofNat 32 (((b - due).toNat / p.toNat + 1) * p.toNat) - b).toNat ∧
      (due + BitVec.ofNat 32 (((b - due).toNat / p.toNat + 1) * p.toNat) - b).toNat ≤ p.toNat := by
  have pos : 0 < p.toNat := Nat.pos_of_ne_zero fun zero => nonzero (BitVec.eq_of_toNat_eq zero)
  have octet := p.isLt
  have slots := (b - due).isLt
  have split := Nat.div_add_mod (b - due).toNat p.toNat
  have rest := Nat.mod_lt (b - due).toNat pos
  have grid : ((b - due).toNat / p.toNat + 1) * p.toNat = p.toNat * ((b - due).toNat / p.toNat) + p.toNat := by
    rw [Nat.add_mul, Nat.one_mul, Nat.mul_comm]
  have beyond : due + BitVec.ofNat 32 (((b - due).toNat / p.toNat + 1) * p.toNat) - b =
      BitVec.ofNat 32 (((b - due).toNat / p.toNat + 1) * p.toNat) - (b - due) := by
    generalize BitVec.ofNat 32 _ = x
    bv_omega
  rw [beyond, grid, BitVec.toNat_sub, BitVec.toNat_ofNat]
  generalize p.toNat * ((b - due).toNat / p.toNat) = q at split ⊢
  omega

theorem passOne_turned {p : StepState} {r : ActionRecord} (linked : r ∈ p.1.sched.wheel) (catchUp : Bool) (b : SlotNo)
    (time : Ticks) : p.1.Turned (PassMoves b) r.id (passOne catchUp b time p r).1 := by
  rw [passOne]
  generalize (if catchUp = true then p.1.releaseOutcome true r else ActionOutcome.expired) = o
  have freed : p.1.Turned (PassMoves b) r.id ((p.1.drive r o).freeRecord r.id) := .freed p.1 r o
  have told (t : State) (done : p.1.Turned (PassMoves b) r.id t) (raised : Bool) (q : ActionRecord) (o' : ActionOutcome) :
      p.1.Turned (PassMoves b) r.id (offerInStep (t, raised) q o' time).1 :=
    done.tells (offerInStep_tells (t, raised) q o' time)
  dsimp only
  split
  · exact told _ freed _ _ _
  · rename_i left
    split
    · split
      · exact told _ freed _ _ _
      · exact (told _ freed p.2 (r.count o) o).tells (offerInStep_tells _ _ _ _)
    · rename_i kept
      split
      · rename_i u moved
        refine told _ (State.Turned.relinked linked ?_ moved fun sound => ?_) _ _ _
        · exact r.count_id o
        · have counted : (r.count o).Sound := sound.count (Bool.eq_false_iff.mpr left)
          obtain ⟨p, nonzero, step⟩ := counted.step_octet
          have grid := nextGrid_ahead (r.count o).due b nonzero
          rw [← step] at grid
          refine ⟨counted.less counted.2.2.2.2 (Remaining.spent_less_of_not_spentBySkips (Bool.eq_false_iff.mpr kept)),
            grid.1, grid.2.trans ?_⟩
          have := p.isLt
          omega
      · exact ((told _ freed p.2 (r.count o) o).tells (offerInStep_tells _ _ _ _)).tells (State.raise_tells _ _ _)

theorem passTurn_turned (catchUp : Bool) (b : SlotNo) (time : Ticks) (p : StepState) (id : Nat) :
    p.1.Turned (PassMoves b) id (passTurn catchUp b time p id).1 := by
  rw [passTurn]
  split
  · rename_i r found
    obtain ⟨linked, rfl⟩ := State.findRecord_eq_some found
    exact passOne_turned linked catchUp b time
  · exact .none ‹_›

/-! ## Walks: each record due gets its turn, and none is due again -/

/-- The linked records are distinct, all `good`, and those that are `due` have their turn still to come. -/
structure Awaiting (good due : ActionRecord → Prop) (ids : List Nat) (wheel : List ActionRecord) : Prop where
  distinct : (wheel.map (·.id)).Nodup
  good : ∀ q ∈ wheel, good q
  due : ∀ q ∈ wheel, due q ↔ q.id ∈ ids

theorem Awaiting.turn {good due : ActionRecord → Prop} {moves : ActionRecord → ActionRecord → Prop} {id : Nat}
    {ids : List Nat} {s t : State} (h : Awaiting good due (id :: ids) s.sched.wheel) (fresh : id ∉ ids)
    (beyond : ∀ r q, good r → due r → moves r q → good q ∧ ¬ due q) (turned : s.Turned moves id t) :
    Awaiting good due ids t.sched.wheel := by
  obtain ⟨distinct, isGood, isDue⟩ := h
  have others {q : ActionRecord} (hq : q ∈ s.sched.wheel.eraseP fun x => x.id = id) : q ∈ s.sched.wheel ∧ q.id ≠ id := by
    rw [eraseP_id_eq_filter distinct] at hq
    exact ⟨(List.mem_filter.mp hq).1, of_decide_eq_true (List.mem_filter.mp hq).2⟩
  have left : Awaiting good due ids (s.sched.wheel.eraseP fun x => x.id = id) := by
    refine ⟨distinct.sublist (List.eraseP_sublist.map _), fun q hq => isGood q (others hq).1, fun q hq => ?_⟩
    rw [isDue q (others hq).1, List.mem_cons, or_iff_right (others hq).2]
  rcases turned.wheel with is | ⟨r, linked, rid, q, qid, may, is⟩
  · rw [is]
    exact left
  · obtain ⟨qGood, qLater⟩ := beyond r q (isGood r linked) ((isDue r linked).mpr (by rw [rid]; exact List.mem_cons_self)) may
    rw [is]
    refine ⟨?_, fun x hx => ?_, fun x hx => ?_⟩
    · rw [List.map_append, List.nodup_append]
      refine ⟨left.distinct, List.nodup_singleton _, fun i hi j hj same => ?_⟩
      obtain ⟨x, hx, rfl⟩ := List.mem_map.mp hi
      rw [List.map_singleton, List.mem_singleton] at hj
      exact (others hx).2 (same.trans (hj.trans qid))
    · rcases List.mem_append.mp hx with hx | hx
      · exact left.good x hx
      · rw [List.mem_singleton.mp hx]
        exact qGood
    · rcases List.mem_append.mp hx with hx | hx
      · exact left.due x hx
      · rw [List.mem_singleton.mp hx, qid]
        exact ⟨fun again => absurd again qLater, fun again => absurd again fresh⟩

/-- A fold of turns over the records due leaves none that is due. -/
theorem Awaiting.walk {σ : Type} {good due : ActionRecord → Prop} {moves : ActionRecord → ActionRecord → Prop}
    {turn : σ → Nat → σ} {state : σ → State} (turns : ∀ p id, (state p).Turned moves id (state (turn p id)))
    (beyond : ∀ r q, good r → due r → moves r q → good q ∧ ¬ due q) (ids : List Nat) (once : ids.Nodup) (p : σ)
    (h : Awaiting good due ids (state p).sched.wheel) : Awaiting good due [] (state (ids.foldl turn p)).sched.wheel := by
  induction ids generalizing p with
  | nil => exact h
  | cons id ids ih =>
    obtain ⟨fresh, rest⟩ := List.nodup_cons.mp once
    exact ih rest _ (h.turn fresh beyond (turns p id))

/-- Turns leave the current slot number, and do not halt the scheduler. -/
theorem turns_keep {σ : Type} {moves : ActionRecord → ActionRecord → Prop} {turn : σ → Nat → σ} {state : σ → State}
    (turns : ∀ p id, (state p).Turned moves id (state (turn p id))) (ids : List Nat) (p : σ) :
    (state (ids.foldl turn p)).sched.curSlot = (state p).sched.curSlot ∧
      ((state (ids.foldl turn p)).sched.state = .halted → (state p).sched.state = .halted) := by
  induction ids generalizing p with
  | nil => exact ⟨rfl, id⟩
  | cons id ids ih =>
    obtain ⟨slot, live⟩ := ih (turn p id)
    exact ⟨slot.trans (turns p id).curSlot, (turns p id).live ∘ live⟩

end Sys2Proof.Machine
end

section
/-! Time steps, and that no slot event leaves a due record behind (O56). -/

namespace Sys2Proof.Machine

/-! ## After a walk -/

theorem Awaiting.start {good due : ActionRecord → Prop} {wheel l : List ActionRecord} (distinct : (wheel.map (·.id)).Nodup)
    (isGood : ∀ q ∈ wheel, good q) (mem : ∀ q, q ∈ l ↔ q ∈ wheel ∧ due q) :
    Awaiting good due (l.map ActionRecord.id) wheel := by
  refine ⟨distinct, isGood, fun q hq => ⟨fun isDue => List.mem_map.mpr ⟨q, (mem q).mpr ⟨hq, isDue⟩, rfl⟩, fun inIds => ?_⟩⟩
  obtain ⟨x, hx, same⟩ := List.mem_map.mp inIds
  rw [← eq_of_id_eq distinct ((mem x).mp hx).1 hq same]
  exact ((mem x).mp hx).2

/-- R110: after the walk of slot `n` no linked record is due at `n`. -/
theorem State.walkSlot_clears {s : State} {good : ActionRecord → Prop} (distinct : (s.sched.wheel.map (·.id)).Nodup)
    (isGood : ∀ q ∈ s.sched.wheel, good q) (n : SlotNo) (time : Ticks)
    (beyond : ∀ r q, good r → r.due = n → ReleaseMoves r q → good q ∧ q.due ≠ n) :
    ∀ q ∈ (s.walkSlot n time).sched.wheel, good q ∧ q.due ≠ n := by
  have mem (q : ActionRecord) : q ∈ s.sched.wheel.filter (fun r => decide (r.due = n)) ↔ q ∈ s.sched.wheel ∧ q.due = n := by
    rw [List.mem_filter, decide_eq_true_iff]
  have start : Awaiting good (fun q => q.due = n) _ s.sched.wheel := .start distinct isGood mem
  have once : ((s.sched.wheel.filter fun r => decide (r.due = n)).map ActionRecord.id).Nodup :=
    distinct.sublist (List.filter_sublist.map _)
  have done := Awaiting.walk (state := fun t => t) (State.releaseTurn_turned time) beyond _ once s start
  rw [State.walkSlot_eq]
  exact fun q hq => ⟨done.good q hq, fun isDue => absurd ((done.due q hq).mp isDue) List.not_mem_nil⟩

theorem add_octet_ne (n : SlotNo) {p : Octet} (nonzero : p ≠ 0) : n + BitVec.ofNat 32 p.toNat ≠ n := by
  intro same
  have pos : p.toNat ≠ 0 := fun zero => nonzero (BitVec.eq_of_toNat_eq zero)
  have := p.isLt
  have := congrArg BitVec.toNat same
  rw [BitVec.toNat_add, BitVec.toNat_ofNat] at this
  have := n.isLt
  omega

/-! ## A time step, forward and not (R119, R120) -/

theorem State.setSlot_self {s : State} {b : SlotNo} (is : s.sched.curSlot = b) : s.setSlot b = s := by
  subst is
  rfl

/-- The passed records of a step of `d` slots, handed on in order. -/
def State.passed (s : State) (b : SlotNo) (time : Ticks) (d : Nat) : StepState :=
  ((gather s.sched.curSlot (d - 1) s.sched.wheel).map ActionRecord.id).foldl
    (passTurn (decide (d - 1 ≤ s.cfg.catchUpLimit)) b time) (s.setSlot b, false)

theorem State.passed_sched (s : State) (b : SlotNo) (time : Ticks) (d : Nat) :
    (s.passed b time d).1.sched.curSlot = b ∧
      ((s.passed b time d).1.sched.state = .halted → s.sched.state = .halted) :=
  turns_keep (state := Prod.fst) (passTurn_turned _ b time) _ (s.setSlot b, false)

theorem State.timeStep_eq (s : State) (b : SlotNo) (time : Ticks) : s.timeStep b time =
    if s.sched.state = .halted ∨ slotDistance s.sched.curSlot b < 1 then s.setSlot b
    else (s.passed b time (slotDistance s.sched.curSlot b).toNat).1.walkSlot b time := by
  have forward : (if slotDistance s.sched.curSlot b < 1 then s.setSlot b
      else (s.passed b time (slotDistance s.sched.curSlot b).toNat).1.walkSlot b time) = s.timeStep b time ∨
      s.sched.state = .halted := by
    rw [State.timeStep, show (s.setSlot b).sched.state = s.sched.state from rfl]
    simp only [State.passedRecords_eq]
    cases s.sched.state with
    | halted => exact .inr rfl
    | running => exact .inl rfl
    | frozen => exact .inl rfl
  by_cases halted : s.sched.state = .halted
  · rw [if_pos (.inl halted), State.timeStep, show (s.setSlot b).sched.state = s.sched.state from rfl, halted]
  · rw [← forward.resolve_right halted]
    simp only [halted, false_or]

theorem State.timeStep_still {s : State} {b : SlotNo} (still : slotDistance s.sched.curSlot b < 1) (time : Ticks) :
    s.timeStep b time = s.setSlot b := by
  rw [State.timeStep_eq, if_pos (.inr still)]

theorem State.timeStep_forward {s : State} {b : SlotNo} {d : Nat} (live : s.sched.state ≠ .halted)
    (distance : slotDistance s.sched.curSlot b = d) (forward : 1 ≤ d) (time : Ticks) :
    s.timeStep b time = (s.passed b time d).1.walkSlot b time := by
  rw [State.timeStep_eq, if_neg (not_or.mpr ⟨live, by omega⟩), distance, Int.toNat_natCast]

theorem State.passed_slotExpiry {s : State} (live : s.sched.state ≠ .halted) (b : SlotNo) (time : Ticks) (d : Nat) :
    (s.passed b time d).1.slotExpiry b time = (s.passed b time d).1.walkSlot b time := by
  obtain ⟨slot, halted⟩ := s.passed_sched b time d
  rw [State.slotExpiry_live (live ∘ halted), State.setSlot_self slot]

@[simp] theorem State.timeStep_curSlot (s : State) (b : SlotNo) (time : Ticks) :
    (s.timeStep b time).sched.curSlot = b := by
  rw [State.timeStep_eq]
  split
  · rfl
  · rw [State.walkSlot_curSlot]
    exact (s.passed_sched b time _).1

/-! ## After a forward step -/

/-- A distance that is not negative is the difference of the slot numbers. -/
theorem toNat_of_slotDistance {a b : SlotNo} {d : Nat} (distance : slotDistance a b = d) : (b - a).toNat = d := by
  have is : (b - a).toInt = d := distance
  rw [BitVec.toInt_eq_toNat_cond] at is
  split at is <;> omega

/-- Slots counted from `a`, across a record 1 to 255 slots beyond `b`. -/
theorem ahead_beyond {a b due : SlotNo} {d : Nat} (distance : slotDistance a b = d) (low : 1 ≤ (due - b).toNat)
    (high : (due - b).toNat ≤ 255) : d < (due - a).toNat := by
  have split : due - a = (due - b) + (b - a) := by bv_omega
  have small := BitVec.toInt_lt (x := b - a)
  have is : (b - a).toInt = d := distance
  rw [split, BitVec.toNat_add, toNat_of_slotDistance distance]
  omega

theorem ahead_self {a b : SlotNo} {d : Nat} (distance : slotDistance a b = d) (due : SlotNo) :
    (due - a).toNat = d ↔ due = b := by
  rw [← toNat_of_slotDistance distance, BitVec.toNat_inj]
  exact sub_left_inj

/-- R119 to R124: after a forward step from `a` to `b` no linked record lies from `a` + 1 to `b`. -/
theorem State.timeStep_clears {s : State} (whole : s.PoolWhole) (sound : s.RecordsSound) (live : s.sched.state ≠ .halted)
    {b : SlotNo} {d : Nat} (distance : slotDistance s.sched.curSlot b = d) (forward : 1 ≤ d) (time : Ticks) :
    ∀ q ∈ (s.timeStep b time).sched.wheel, ¬ (1 ≤ q.ahead s.sched.curSlot ∧ q.ahead s.sched.curSlot ≤ d) := by
  have distinct := whole.distinct
  have once : ((gather s.sched.curSlot (d - 1) s.sched.wheel).map ActionRecord.id).Nodup := by
    refine List.Nodup.map_on ?_ ?_
    · exact fun x hx y hy same => eq_of_id_eq distinct (mem_gather.mp hx).1 (mem_gather.mp hy).1 same
    · exact nodup_flatMap_filter distinct.of_map _ (fun k (r : ActionRecord) => r.ahead s.sched.curSlot = k + 1)
        fun r _ j _ k _ isJ isK => by omega
  have passes : Awaiting ActionRecord.Sound
      (fun q => 1 ≤ q.ahead s.sched.curSlot ∧ q.ahead s.sched.curSlot ≤ d - 1) [] (s.passed b time d).1.sched.wheel := by
    refine Awaiting.walk (state := Prod.fst) (passTurn_turned _ b time) (fun r q good _ moves => ?_) _ once
      (s.setSlot b, false) (.start distinct sound fun _ => mem_gather)
    obtain ⟨qSound, low, high⟩ := moves good
    have far : d < q.ahead s.sched.curSlot := ahead_beyond distance low high
    exact ⟨qSound, by omega⟩
  have walked := State.walkSlot_clears
    (good := fun q => q.Sound ∧ ¬ (1 ≤ q.ahead s.sched.curSlot ∧ q.ahead s.sched.curSlot ≤ d - 1)) passes.distinct
    (fun q hq => ⟨passes.good q hq, fun isDue => absurd ((passes.due q hq).mp isDue) List.not_mem_nil⟩) b time
    (fun r q good due moves => by
      obtain ⟨qSound, p, nonzero, later⟩ := moves good.1
      have beyond : (q.due - b).toNat = p.toNat := by
        rw [later, due]
        have := p.isLt
        bv_omega
      have pos : p.toNat ≠ 0 := fun zero => nonzero (BitVec.eq_of_toNat_eq zero)
      have octet := p.isLt
      have far : d < q.ahead s.sched.curSlot := ahead_beyond distance (by omega) (by omega)
      exact ⟨⟨qSound, by omega⟩, by rw [later, due]; exact add_octet_ne b nonzero⟩)
  rw [State.timeStep_forward live distance forward]
  rintro q hq ⟨low, high⟩
  obtain ⟨⟨-, notPassed⟩, notHere⟩ := walked q hq
  have last : q.ahead s.sched.curSlot = d := by omega
  exact notHere ((ahead_self distance q.due).mp last)

/-! ## The turn of a passed record (R121 to R124) -/

/-- R121: the outcome of a passed record. -/
theorem passOutcome_eq (t : State) (catchUp : Bool) (r : ActionRecord) :
    (if catchUp = true then t.releaseOutcome true r else .expired) =
      if catchUp = false then .expired else if t.sched.state ≠ .running then .suppressed
      else if t.out.table[r.channel].enabled = true then .late else .disabled := by
  cases catchUp with
  | false => rfl
  | true => exact t.releaseOutcome_eq true r

theorem State.drive_passed {t : State} {catchUp : Bool} {r : ActionRecord} {o : ActionOutcome}
    (is : (if catchUp = true then t.releaseOutcome true r else .expired) = o) :
    t.drive r o = if o = .late then t.applyAction r else t := by
  rw [passOutcome_eq] at is
  split_ifs at is <;> subst is <;> rfl

theorem ActionRecord.count_passed {t : State} {catchUp : Bool} {r : ActionRecord} {o : ActionOutcome} {rest : Remaining}
    (is : (if catchUp = true then t.releaseOutcome true r else .expired) = o) (less : r.remaining.less 1 = rest) :
    r.count o =
      { r with fired := if o = .late ∨ o = .disabled then min 65535 (r.fired + 1) else r.fired, remaining := rest } := by
  subst less
  rw [passOutcome_eq] at is
  split_ifs at is <;> subst is <;> rfl

theorem Remaining.less_less (m : Remaining) (n : Nat) : (m.less 1).less n = m.less (n + 1) := by
  cases m with
  | unlimited => rfl
  | times k =>
    simp only [Remaining.less, Remaining.times.injEq]
    omega

/-- R123: the skipped firings spend what the passed firing has left. -/
theorem Remaining.spentBySkips_iff (m : Remaining) (skips : Nat) :
    (m.less 1).spentBySkips skips = true ↔ ∃ n, m = .times n ∧ n - 1 ≤ skips := by
  cases m with
  | unlimited => exact ⟨fun spent => Bool.noConfusion spent, fun ⟨_, is, _⟩ => Remaining.noConfusion is⟩
  | times k =>
    simp only [Remaining.less, Remaining.spentBySkips, decide_eq_true_eq, Remaining.times.injEq, exists_eq_left']

section
variable {t driven : State} {before after : List ActionRecord} {r counted : ActionRecord} {o : ActionOutcome}
  {catchUp : Bool}

theorem passTurn_at (wheel : t.sched.wheel = before ++ r :: after) (first : ∀ x ∈ before, x.id ≠ r.id)
    (b : SlotNo) (time : Ticks) (raised : Bool) :
    passTurn catchUp b time (t, raised) r.id = passOne catchUp b time (t, raised) r := by
  rw [passTurn, State.findRecord_at wheel first]

/-- The last firing of a passed record. -/
theorem passTurn_last (wheel : t.sched.wheel = before ++ r :: after) (first : ∀ x ∈ before, x.id ≠ r.id)
    (is : (if catchUp = true then t.releaseOutcome true r else .expired) = o) (drives : t.drive r o = driven)
    (counts : r.count o = counted) (spent : counted.remaining.spent = true) (b : SlotNo) (time : Ticks) (raised : Bool) :
    passTurn catchUp b time (t, raised) r.id = offerInStep (driven.setSched { t.sched with
      free := t.sched.free ++ [r.id], wheel := before ++ after }, raised) counted o time := by
  subst drives counts
  rw [passTurn_at wheel first, passOne]
  simp only [is, spent, if_true, State.freeRecord_at (t.drive_sched r o) wheel first]

/-- A passed record with more firings to come: spent by the skipped ones, relinked, or dropped. -/
theorem passTurn_more (wheel : t.sched.wheel = before ++ r :: after) (first : ∀ x ∈ before, x.id ≠ r.id)
    (is : (if catchUp = true then t.releaseOutcome true r else .expired) = o) (drives : t.drive r o = driven)
    (counts : r.count o = counted) (left : counted.remaining.spent = false) (b : SlotNo) (time : Ticks) (raised : Bool) :
    let skips := skippedFirings counted b
    let next := counted.due + BitVec.ofNat 32 ((skips + 1) * counted.step)
    let freed := driven.setSched { t.sched with free := t.sched.free ++ [r.id], wheel := before ++ after }
    let told := offerInStep (freed, raised) counted o time
    let room := ((before ++ after).filter fun x => x.due.toNat % 256 = next.toNat % 256).length < 32
    passTurn catchUp b time (t, raised) r.id =
      if counted.remaining.spentBySkips skips then
        if o = .expired then told else offerInStep told counted .expired time
      else if room then
        offerInStep (driven.setSched { t.sched with wheel := before ++ after ++
          [{ counted with due := next, remaining := counted.remaining.less skips }] }, raised) counted o time
      else
        ((offerInStep told counted .dropped time).1.raise .repeatDropped time,
         (offerInStep told counted .dropped time).2) := by
  subst drives counts
  intro skips next freed told room
  have moved : (t.drive r o).relink { r.count o with remaining := (r.count o).remaining.less skips } next =
      if room then some ((t.drive r o).setSched { t.sched with wheel := before ++ after ++
        [{ r.count o with due := next, remaining := (r.count o).remaining.less skips }] }) else none :=
    State.relink_at (kept := { r.count o with remaining := (r.count o).remaining.less skips }) (t.drive_sched r o) wheel
      first (r.count_id o) next
  have form : passOne catchUp b time (t, raised) r =
      if (r.count o).remaining.spentBySkips skips then
        if o = .expired then told else offerInStep told (r.count o) .expired time
      else match (t.drive r o).relink { r.count o with remaining := (r.count o).remaining.less skips } next with
        | some linked => offerInStep (linked, raised) (r.count o) o time
        | none => ((offerInStep told (r.count o) .dropped time).1.raise .repeatDropped time,
            (offerInStep told (r.count o) .dropped time).2) := by
    rw [passOne]
    simp only [is, left, Bool.false_eq_true, if_false, State.freeRecord_at (t.drive_sched r o) wheel first]
    rfl
  rw [passTurn_at wheel first, form, moved]
  by_cases place : room
  · rw [if_pos place, if_pos place]
  · rw [if_neg place, if_neg place]

end

/-- R122: an outcome in a step, by whether it is the step's first EXPIRED. -/
theorem offerInStep_eq (p : StepState) (r : ActionRecord) (o : ActionOutcome) (time : Ticks) :
    offerInStep p r o time =
      if o = .expired ∧ p.2 = false then ((p.1.offerCompletion r o time).raise .actionsExpired time, true)
      else (p.1.offerCompletion r o time, p.2) := by
  have condition : (decide (o = .expired) && !p.2) = true ↔ o = .expired ∧ p.2 = false := by simp
  rw [offerInStep]
  simp only [condition]

/-- Settles O56: no slot event leaves a due record behind, and the turn of a passed record. -/
theorem nothingDueIsLeftBehind : Obligations.NothingDueIsLeftBehind := by
  refine ⟨fun s whole sound live => ⟨fun t up ahead is => ?_, ?_⟩, ?_, ?_⟩
  · rw [exec_slotBoundary up ahead] at is
    cases is
    rw [State.settle_sched, State.slotExpiry_curSlot]
    refine ⟨rfl, ?_⟩
    rw [State.slotExpiry_live live]
    have walked := State.walkSlot_clears (s := s.setSlot (s.sched.curSlot + 1)) whole.distinct sound (s.sched.curSlot + 1)
      (firstTickOf s.cfg.slotExp s.lineTime (s.sched.curSlot + 1)) fun r q good due moves => ?_
    · exact fun r hr => (walked r hr).2
    · obtain ⟨qSound, p, nonzero, later⟩ := moves good
      exact ⟨qSound, by rw [later, due]; exact add_octet_ne _ nonzero⟩
  · intro b time d
    refine ⟨fun forward => ⟨s.timeStep_curSlot b time, ?_⟩, fun still => State.timeStep_still still time⟩
    have nonneg : 0 ≤ d := by omega
    have distance : slotDistance s.sched.curSlot b = d.toNat := (Int.toNat_of_nonneg nonneg).symm
    rintro r hr ⟨low, high⟩
    exact State.timeStep_clears whole sound live distance (by omega) time r hr ⟨low, by
      show (r.due - s.sched.curSlot).toNat ≤ _
      omega⟩
  · intro s b time d live distance forward passed handled
    rw [State.timeStep_forward live distance forward]
    exact (State.passed_slotExpiry live b time d).symm
  · intro t b time catchUp raised before after r wheel first o driven counted freed tells becomes
    have is : (if catchUp = true then t.releaseOutcome true r else .expired) = o := passOutcome_eq t catchUp r
    have drives : t.drive r o = driven := State.drive_passed is
    have counts : r.count o = counted := ActionRecord.count_passed is (by cases r.remaining <;> rfl)
    have remaining : counted.remaining = r.remaining.less 1 := by
      rw [← counts, ActionRecord.count_passed is rfl]
    have told (p : StepState) (outcome : ActionOutcome) : offerInStep p counted outcome time = tells p outcome :=
      offerInStep_eq p counted outcome time
    refine ⟨fun last => ?_, fun p period nonzero some many => ?_⟩
    · have spent : counted.remaining.spent = true := by rw [remaining, last]; rfl
      show passTurn catchUp b time (t, raised) r.id = _
      rw [passTurn_last wheel first is drives counts spent, told]
      rfl
    · intro m next others spends kept relinked
      have left : counted.remaining.spent = false := by
        rw [remaining, Remaining.spent_less_one some]
        exact decide_eq_false many
      have more := passTurn_more wheel first is drives counts left b time raised
      have step : counted.step = p.toNat := by
        show (r.period.getD 1).toNat = p.toNat
        rw [period]
        rfl
      have skips : skippedFirings counted b = m - 1 := by
        show (b - r.due).toNat / counted.step = (b - r.due).toNat / p.toNat
        rw [step]
      have skipped : counted.remaining.spentBySkips (m - 1) = true ↔ spends := by
        rw [remaining]
        exact Remaining.spentBySkips_iff r.remaining (m - 1)
      have whole : m - 1 + 1 = m := rfl
      have isKept : { counted with due := next, remaining := counted.remaining.less (m - 1) } = kept := by
        have less : counted.remaining.less (m - 1) = kept.remaining := by
          rw [remaining, Remaining.less_less, whole]
          show r.remaining.less m = match r.remaining with
            | Remaining.times n => Remaining.times (n - m)
            | Remaining.unlimited => Remaining.unlimited
          cases r.remaining <;> rfl
        rw [less]
      dsimp only at more
      simp only [skips, step, whole, told] at more
      refine ⟨nextGrid_ahead r.due b nonzero, fun spent expired => ?_, fun spent other => ?_, fun lasts room => ?_,
        fun lasts full => ?_⟩
      · exact more.trans ((if_pos (skipped.mpr spent)).trans (if_pos expired))
      · exact more.trans ((if_pos (skipped.mpr spent)).trans (if_neg other))
      · refine more.trans ((if_neg (mt skipped.mp lasts)).trans ((if_pos room).trans ?_))
        exact congrArg (fun x => tells (driven.setSched { t.sched with wheel := before ++ after ++ [x] }, raised) o) isKept
      · exact more.trans ((if_neg (mt skipped.mp lasts)).trans (if_neg (Nat.not_lt_of_le full)))

end Sys2Proof.Machine
end

section
/-! The sync state machine (O52). -/

namespace Sys2Proof.Machine

/-! ## The SYNC payload -/

theorem joinFour (c : BitVec 32) : ((c >>> 24).setWidth 8 ++ (c >>> 16).setWidth 8 ++ (c >>> 8).setWidth 8 ++
    (c >>> 0).setWidth 8 : BitVec 32) = c := by
  refine BitVec.eq_of_toNat_eq ?_
  have := c.isLt
  simp only [toNat_append_octet, BitVec.toNat_setWidth, BitVec.toNat_ushiftRight, Nat.shiftRight_eq_div_pow]
  omega

theorem joinSix (m : BitVec 48) : ((m >>> 40).setWidth 8 ++ (m >>> 32).setWidth 8 ++ (m >>> 24).setWidth 8 ++
    (m >>> 16).setWidth 8 ++ (m >>> 8).setWidth 8 ++ (m >>> 0).setWidth 8 : BitVec 48) = m := by
  refine BitVec.eq_of_toNat_eq ?_
  have := m.isLt
  simp only [toNat_append_octet, BitVec.toNat_setWidth, BitVec.toNat_ushiftRight, Nat.shiftRight_eq_div_pow]
  omega

/-- A SYNC payload (section 11.3): MasterTime, Correction and SyncSeq. -/
def syncPayload (master : BitVec 48) (correction : BitVec 32) (syncSeq : Octet) : List Octet :=
  octetsOf 6 master ++ octetsOf 4 correction ++ [syncSeq]

theorem length_syncPayload (master : BitVec 48) (correction : BitVec 32) (syncSeq : Octet) :
    (syncPayload master correction syncSeq).length = 11 := by
  rw [syncPayload, List.length_append, List.length_append, length_octetsOf, length_octetsOf]
  rfl

theorem measuredTime_syncPayload (master : BitVec 48) (correction : BitVec 32) (syncSeq : Octet) :
    measuredTime (syncPayload master correction syncSeq) = master + correction.signExtend 48 :=
  congrArg₂ (fun (m : BitVec 48) (c : BitVec 32) => m + c.signExtend 48) (joinSix master) (joinFour correction)

theorem correctionOf_syncPayload (master : BitVec 48) (correction : BitVec 32) (syncSeq : Octet) :
    correctionOf (syncPayload master correction syncSeq) = correction :=
  joinFour correction

/-! ## Measuring and stepping -/

theorem State.smallError_iff (s : State) (e : Ticks) :
    s.smallError e = true ↔ -(s.cfg.stepLimit : Int) ≤ e.toInt ∧ e.toInt ≤ s.cfg.stepLimit := by
  rw [State.smallError, decide_eq_true_iff]
  omega

theorem State.acceptsSync_iff (s : State) (src : Octet) (payload : List Octet) :
    s.acceptsSync src payload = true ↔ src = s.cfg.timeSource ∧ payload.length = 11 := by
  rw [State.acceptsSync, Bool.and_eq_true, decide_eq_true_iff, decide_eq_true_iff]

/-- R53: what follows a step of the Time Base. -/
theorem State.afterStep_still {s : State} {e : Ticks} (still : e = 0 ∨ s.slotNow = s.sched.curSlot) : s.afterStep e = s := by
  by_cases none : e = 0
  · rw [none, State.afterStep_zero]
  · rw [State.afterStep_of_ne none]
    exact if_pos (still.resolve_left none)

theorem State.afterStep_moved {s : State} {e : Ticks} (moved : e ≠ 0) (slot : s.slotNow ≠ s.sched.curSlot) :
    s.afterStep e = s.timeStep s.slotNow s.lineTime := by
  rw [State.afterStep_of_ne moved]
  exact if_neg slot

/-! ## A raise latches its flag -/

theorem State.isLatched_respond (s : State) (k j : FaultKind) : (s.respond k).isLatched j = s.isLatched j := by
  rw [State.respond_eq]
  split
  · cases state : s.sched.state with
    | running => rw [State.freezeResponse_running state]; rfl
    | halted => rw [State.freezeResponse_halted state]; rfl
    | frozen => rw [State.freezeResponse_frozen state]
  · rfl

theorem State.isLatched_latch (s : State) (k j : FaultKind) :
    (s.latch k).isLatched j = (s.isLatched j || decide (k = j)) := by
  have bit : ∀ k j : FaultKind, k.mask.getLsbD j.code.val = decide (k = j) := by
    intro k j
    cases k <;> cases j <;> rfl
  rw [State.isLatched, State.isLatched, ← bit]
  exact BitVec.getLsbD_or

theorem State.offerNotice_keepsLatched {s : State} {j : FaultKind} (latched : s.isLatched j = true) (b : NoticeBody) :
    (s.offerNotice b).isLatched j = true := by
  by_cases room : s.notices.queue.length < 32
  · rw [State.offerNotice_room room]
    exact latched
  · by_cases full : s.isLatched .noticeOverflow = true
    · rw [State.offerNotice_full room full]
      exact latched
    · rw [State.offerNotice_overflow room full, State.isLatched_respond, State.isLatched_latch, Bool.or_eq_true]
      exact .inl latched

/-- R161: after a raise the flag is latched. -/
theorem State.raise_isLatched (s : State) (k : FaultKind) (time : Ticks) : (s.raise k time).isLatched k = true := by
  have set : (s.latch k).isLatched k = true := by rw [State.isLatched_latch]; simp
  cases latched : s.isLatched k with
  | true => rw [State.raise_latched latched, latched]
  | false =>
    cases notices : s.cfg.faultNotices with
    | true =>
      rw [State.raise_noticed latched notices, State.isLatched_respond]
      exact State.offerNotice_keepsLatched set _
    | false => rw [State.raise_silent latched notices, State.isLatched_respond, set]

/-! ## The table of section 3.4 -/

/-- Settles O52: the table of section 3.4, and the time step after a step of the Time Base. -/
theorem syncStateMachine : Obligations.SyncStateMachine := by
  refine fun s src arrival up => ⟨fun payload other => ?_, ?_⟩
  · refine (answer_up up).trans (congrArg _ (if_neg fun accepts => ?_))
    obtain ⟨source, length⟩ := (s.acceptsSync_iff src payload).mp accepts
    exact other.elim (absurd source) (absurd length)
  · intro master correction syncSeq source m e small timer stepped now slot outlier jumped takes steps
    have accepts : s.acceptsSync src (syncPayload master correction syncSeq) = true :=
      (s.acceptsSync_iff _ _).mpr ⟨source, length_syncPayload ..⟩
    have measured : s.measure (syncPayload master correction syncSeq) = m := by
      rw [State.measure, measuredTime_syncPayload]
    have taken : s.takeSync src arrival (syncPayload master correction syncSeq) = s.syncMachine m e := by
      rw [State.takeSync, if_pos accepts, measured]
    have row {u : State} (is : s.syncMachine m e = u) : takes u := by
      refine (answer_up up).trans (congrArg _ ((if_pos accepts).trans ?_))
      exact congrArg State.settle (taken.trans is)
    have stepping {u : State} (is : s.syncMachine m e = u.afterStep e) (cfg : u.cfg = s.cfg)
        (time : u.lineTime = now) (cur : u.sched.curSlot = s.sched.curSlot) : steps u := by
      have slotIs : u.slotNow = slot := by rw [State.slotNow, cfg, time]
      refine ⟨fun still => row (is.trans (State.afterStep_still ?_)), fun moved differs =>
        ⟨row (is.trans ?_), ?_, ?_⟩⟩
      · rwa [slotIs, cur]
      · rw [State.afterStep_moved moved (by rwa [slotIs, cur]), slotIs, time]
      · rw [State.settle_sched, State.timeStep_curSlot]
      · rw [State.settle_time]
        exact (u.timeStep_effectsOnly slot now).time
    have isSmall (h : small) : s.smallError e = true := (s.smallError_iff e).mpr h
    have notSmall (h : ¬ small) : ¬ s.smallError e = true := mt (s.smallError_iff e).mp h
    have raised := (stepped .acquiring).raise_noticesOnly .syncJump now
    have jumps (is : s.syncMachine m e = jumped.afterStep e) : steps jumped := by
      refine stepping is raised.cfg ?_ raised.sched_curSlot
      rw [State.lineTime, raised.time]
    refine ⟨fun unsynced => stepping ?_ rfl rfl rfl, fun synced h => stepping ?_ rfl rfl rfl,
      fun acquiring h => stepping ?_ rfl rfl rfl, ?_, fun locked h full => jumps ?_, fun holdover h => jumps ?_,
      raised.time, raised.sched_curSlot, (stepped .acquiring).raise_isLatched .syncJump now⟩
    · rw [State.syncMachine, unsynced]
      rfl
    · rw [State.syncMachine]
      cases sync : s.time.sync with
      | unsynced => exact absurd sync synced
      | acquiring =>
        dsimp only
        rw [if_pos (isSmall h)]
        rfl
      | locked => exact if_pos (isSmall h)
      | holdover => exact if_pos (isSmall h)
    · rw [State.syncMachine, acquiring]
      dsimp only
      rw [if_neg (notSmall h)]
      rfl
    · rintro ⟨locked, h, few⟩
      refine row ?_
      rw [State.syncMachine, locked]
      exact (if_neg (notSmall h)).trans (if_pos few)
    · rw [State.syncMachine, locked]
      exact (if_neg (notSmall h)).trans (if_neg (by omega))
    · rw [State.syncMachine, holdover]
      exact if_neg (notSmall h)

end Sys2Proof.Machine
end

section
/-! Qualified edges and the Trigger Table (O57). -/

namespace Sys2Proof.Machine

/-! ## One entry of the Trigger Table -/

/-- R145, R155: an entry acts on an edge: RUNNING, and the entry is enabled, names the line and takes the direction. -/
def State.TriggerActs (t : State) (n k : Fin 8) (edge : Edge) : Prop :=
  t.sched.state = .running ∧ t.cap.triggers[k].enabled = true ∧ t.cap.triggers[k].line = n ∧
    (t.cap.triggers[k].edge = .both ∨ (t.cap.triggers[k].edge = .rising ∧ edge = .rising) ∨
      (t.cap.triggers[k].edge = .falling ∧ edge = .falling))

theorem EdgeSelect.takes_iff (e : EdgeSelect) (edge : Edge) :
    e.takes edge = true ↔ e = .both ∨ (e = .rising ∧ edge = .rising) ∨ (e = .falling ∧ edge = .falling) := by
  cases e <;> cases edge <;> decide

theorem EdgeSelect.takes_edgeTo_iff (e : EdgeSelect) (level : Bool) :
    e.takes (edgeTo level) = true ↔ e = .both ∨ (e = .rising ∧ level = true) ∨ (e = .falling ∧ level = false) := by
  cases e <;> cases level <;> decide

theorem State.triggerActs_iff (t : State) (n k : Fin 8) (edge : Edge) :
    (t.cap.triggers[k].matches n edge && decide (t.sched.state = .running)) = true ↔ t.TriggerActs n k edge := by
  rw [Bool.and_eq_true, decide_eq_true_iff, TriggerEntry.matches, Bool.and_eq_true, Bool.and_eq_true, decide_eq_true_iff,
    EdgeSelect.takes_iff]
  exact ⟨fun ⟨⟨⟨enabled, line⟩, takes⟩, running⟩ => ⟨running, enabled, line, takes⟩,
    fun ⟨running, enabled, line, takes⟩ => ⟨⟨⟨enabled, line⟩, takes⟩, running⟩⟩

section
variable {t : State} {n k : Fin 8} {edge : Edge}

theorem State.triggerTurn_still (still : ¬ t.TriggerActs n k edge) : State.triggerTurn n edge t k = t :=
  if_neg (mt (t.triggerActs_iff n k edge).mp still)

theorem State.triggerTurn_acts (acts : t.TriggerActs n k edge) : State.triggerTurn n edge t k =
    match t.linkRecord (triggerRecord k t.cap.triggers[k] (t.sched.curSlot + t.cap.triggers[k].delay.setWidth 32)) with
    | some u => u.disarm k t.cap.triggers[k]
    | none => t.raise .triggerMissed t.lineTime :=
  if_pos ((t.triggerActs_iff n k edge).mpr acts)

/-- R155: the list of the record that an entry admits is full. -/
def State.TriggerFull (t : State) (k : Fin 8) : Prop :=
  32 ≤ (t.sched.wheel.filter fun r =>
    r.due.toNat % 256 = (t.sched.curSlot + BitVec.ofNat 32 t.cap.triggers[k].delay.toNat).toNat % 256).length

theorem State.triggerTurn_missed (acts : t.TriggerActs n k edge) (missed : t.sched.free = [] ∨ t.TriggerFull k) :
    State.triggerTurn n edge t k = t.raise .triggerMissed t.lineTime := by
  have none : t.linkRecord (triggerRecord k t.cap.triggers[k]
      (t.sched.curSlot + t.cap.triggers[k].delay.setWidth 32)) = none := by
    rcases missed with empty | full
    · rw [State.linkRecord, empty]
    · cases free : t.sched.free with
      | nil => rw [State.linkRecord, free]
      | cons id rest =>
        rw [State.linkRecord_eq free, State.listHasPlace_eq]
        refine if_neg fun room => ?_
        rw [← BitVec.ofNat_toNat] at room
        exact Nat.not_lt_of_le full (of_decide_eq_true room)
  rw [State.triggerTurn_acts acts, none]

theorem State.triggerTurn_admits {id : Nat} {rest : List Nat} (acts : t.TriggerActs n k edge)
    (free : t.sched.free = id :: rest) (room : ¬ t.TriggerFull k) :
    State.triggerTurn n edge t k = { t with
      cap := { t.cap with triggers := if t.cap.triggers[k].oneShot then
        t.cap.triggers.set k { t.cap.triggers[k] with enabled := false } else t.cap.triggers }
      sched := { t.sched with free := rest, wheel := t.sched.wheel ++ [triggerRecord k t.cap.triggers[k]
        (t.sched.curSlot + BitVec.ofNat 32 t.cap.triggers[k].delay.toNat) id] } } := by
  have place : t.listHasPlace (t.sched.curSlot + BitVec.ofNat 32 t.cap.triggers[k].delay.toNat) = true := by
    rw [State.listHasPlace_eq]
    exact decide_eq_true (Nat.lt_of_not_le room)
  rw [State.triggerTurn_acts acts, ← BitVec.ofNat_toNat, State.linkRecord_eq free]
  simp only [show ∀ due, (triggerRecord k t.cap.triggers[k] due id).due = due from fun _ => rfl, place, if_true,
    State.disarm]
  split <;> rfl

end

/-! ## The Trigger Table in index order -/

theorem foldl_still {σ α : Type} {f : σ → α → σ} {p : σ} {l : List α} (still : ∀ a ∈ l, f p a = p) : l.foldl f p = p := by
  induction l with
  | nil => rfl
  | cons a l ih =>
    rw [List.foldl_cons, still a List.mem_cons_self]
    exact ih fun x hx => still x (List.mem_cons_of_mem _ hx)

/-- A fold in which one element alone acts. -/
theorem foldl_one {σ α : Type} {f : σ → α → σ} {p q : σ} {k : α} {l : List α} (once : l.Nodup) (mem : k ∈ l)
    (before : ∀ a, a ≠ k → f p a = p) (acts : f p k = q) (after : ∀ a, a ≠ k → f q a = q) : l.foldl f p = q := by
  obtain ⟨front, back, rfl⟩ := List.append_of_mem mem
  obtain ⟨-, back_once, apart⟩ := List.nodup_append.mp once
  rw [List.foldl_append, foldl_still fun a ha => before a (apart a ha k List.mem_cons_self), List.foldl_cons, acts]
  exact foldl_still fun a ha => after a fun same => (List.nodup_cons.mp back_once).1 (same ▸ ha)

/-! ## The Capture Ring -/

/-- R147: what a qualified edge makes of the Capture Unit before the Trigger Table is examined. -/
def State.captured (s : State) (n : Fin 8) (c : Candidate) : CaptureUnit :=
  let seen : CaptureUnit := { s.cap with lines := s.cap.lines.set n { filtered := c.level, candidate := none } }
  if s.cap.stores n (edgeTo c.level) then
    seen.store n (edgeTo c.level) (s.lineTime - c.duration) s.time.sync
  else seen

theorem State.qualify_eq (s : State) (n : Fin 8) (c : Candidate) : s.qualify n c =
    ([0, 1, 2, 3, 4, 5, 6, 7] : List (Fin 8)).foldl (State.triggerTurn n (edgeTo c.level))
      { s with cap := s.captured n c } := by
  have all : List.finRange 8 = [0, 1, 2, 3, 4, 5, 6, 7] := by decide
  rw [State.qualify, all]
  unfold State.captured
  dsimp only
  split
  · rename_i stores
    rw [if_pos (show s.cap.stores n (edgeTo c.level) = true from stores)]
    rfl
  · rename_i stores
    rw [if_neg (show ¬ s.cap.stores n (edgeTo c.level) = true from stores)]
    rfl

theorem CaptureUnit.stores_iff (k : CaptureUnit) (n : Fin 8) (level : Bool) : k.stores n (edgeTo level) = true ↔
    k.enable.getLsbD n.val = true ∧
      (k.edges[n] = .both ∨ (k.edges[n] = .rising ∧ level = true) ∨ (k.edges[n] = .falling ∧ level = false)) := by
  rw [CaptureUnit.stores, Bool.and_eq_true, EdgeSelect.takes_edgeTo_iff]

section
variable {s : State} {n : Fin 8} {c : Candidate}

theorem State.captured_stored (stores : s.cap.stores n (edgeTo c.level) = true) (room : s.cap.ring.length < 64) :
    s.captured n c = { s.cap with
      lines := s.cap.lines.set n { filtered := c.level, candidate := none }
      ring := s.cap.ring ++ [{ seq := s.cap.nextSeq, line := n, edge := edgeTo c.level, time := s.lineTime - c.duration,
                               sync := s.time.sync, gap := s.cap.gapPending }]
      nextSeq := s.cap.nextSeq + 1, gapPending := false } :=
  (if_pos stores).trans (if_pos room)

theorem State.captured_lost (stores : s.cap.stores n (edgeTo c.level) = true) (full : ¬ s.cap.ring.length < 64) :
    s.captured n c = { s.cap with
      lines := s.cap.lines.set n { filtered := c.level, candidate := none }, gapPending := true } :=
  (if_pos stores).trans (if_neg full)

theorem State.captured_silent (silent : ¬ s.cap.stores n (edgeTo c.level) = true) :
    s.captured n c = { s.cap with lines := s.cap.lines.set n { filtered := c.level, candidate := none } } :=
  if_neg silent

theorem State.captured_triggers : (s.captured n c).triggers = s.cap.triggers := by
  by_cases stores : s.cap.stores n (edgeTo c.level) = true
  · by_cases room : s.cap.ring.length < 64
    · rw [State.captured_stored stores room]
    · rw [State.captured_lost stores room]
  · rw [State.captured_silent stores]

end

theorem triggerRecord_eq (k : Fin 8) (e : TriggerEntry) (due : SlotNo) (id : Nat) {a : ChannelAction}
    (action : e.action.withWidth e.width = a) : triggerRecord k e due id =
      { id := id, due := due, channel := e.channel, action := a, tag := BitVec.ofNat 16 k.val, origin := .trigger k,
        period := none, remaining := .times 1, fired := 0, report := e.report } := by
  rw [triggerRecord, action]

theorem mem_triggerOrder : ∀ k : Fin 8, k ∈ ([0, 1, 2, 3, 4, 5, 6, 7] : List (Fin 8)) := by decide

/-- Settles O57: the turn of an entry, the record stored, and one matching entry. -/
theorem qualifiedEdgeStoresAndTriggers : Obligations.QualifiedEdgeStoresAndTriggers := by
  refine ⟨?_, fun s n up => ⟨fun early => ?_, ?_⟩⟩
  · intro t n k edge e due full acts
    refine ⟨fun still => State.triggerTurn_still still, fun does missed => State.triggerTurn_missed does missed, ?_⟩
    intro id rest does free room linked
    have isLinked : triggerRecord k e due id = linked :=
      triggerRecord_eq k e due id (by cases e.action <;> rfl)
    rw [← isLinked]
    exact State.triggerTurn_admits does free room
  · refine (answer_up up).trans (congrArg _ ?_)
    rcases early with none | ⟨c, is, before⟩
    · rw [none]
    · rw [is]
      exact if_neg fun reaches => before ((reached_iff s _).mp reaches)
  · intro c is reaches takes lines stores record matching cap capIs
    have isStored : s.cap.stores n (edgeTo c.level) = true ↔ stores := s.cap.stores_iff n c.level
    have captured : s.captured n c = cap := by
      rcases capIs with ⟨st, room, rfl⟩ | ⟨st, full, rfl⟩ | ⟨silent, rfl⟩
      · exact State.captured_stored (isStored.mpr st) room
      · exact State.captured_lost (isStored.mpr st) (Nat.not_lt_of_le full)
      · exact State.captured_silent (mt isStored.mp silent)
    have triggers : cap.triggers = s.cap.triggers := by rw [← captured, State.captured_triggers]
    have row : exec (.qualifiedEdge n) s = .next (([0, 1, 2, 3, 4, 5, 6, 7] : List (Fin 8)).foldl
        (State.triggerTurn n (edgeTo c.level)) { s with cap := cap }).settle := by
      refine (answer_up up).trans (congrArg _ ?_)
      rw [is]
      refine (if_pos ((reached_iff s _).mpr reaches)).trans ?_
      rw [State.qualify_eq, captured]
    have actsIff (v : State) (m : Fin 8) (entry : v.cap.triggers[m] = s.cap.triggers[m]) :
        v.TriggerActs n m (edgeTo c.level) ↔ v.sched.state = .running ∧ matching m := by
      rw [State.TriggerActs, entry, ← EdgeSelect.takes_iff, EdgeSelect.takes_edgeTo_iff]
    have kept (m : Fin 8) : cap.triggers[m] = s.cap.triggers[m] := by simp only [triggers]
    refine ⟨row, fun still => ?_, ?_⟩
    · rw [row, foldl_still fun m _ => State.triggerTurn_still fun acts => ?_]
      obtain ⟨running, takesIt⟩ := (actsIff _ m (kept m)).mp acts
      exact still.elim (fun idle => idle running) fun none => none m takesIt
    · intro k running own only e due full
      have acts : State.TriggerActs { s with cap := cap } n k (edgeTo c.level) :=
        (actsIff _ k (kept k)).mpr ⟨running, own⟩
      have lone {v : State} (turn : State.triggerTurn n (edgeTo c.level) { s with cap := cap } k = v)
          (others : ∀ m, m ≠ k → v.cap.triggers[m] = s.cap.triggers[m]) :
          exec (.qualifiedEdge n) s = .next v.settle := by
        rw [row, foldl_one (by decide) (mem_triggerOrder k) ?_ turn ?_]
        · exact fun m other => State.triggerTurn_still fun does => only m other ((actsIff _ m (kept m)).mp does).2
        · exact fun m other => State.triggerTurn_still fun does => only m other ((actsIff _ m (others m other)).mp does).2
      have fullIs : State.TriggerFull { s with cap := cap } k ↔ full := by
        rw [State.TriggerFull]
        simp only [kept k]
        rfl
      refine ⟨fun id rest free room => ?_, fun missed => ?_⟩
      · intro linked now
        have isLinked : triggerRecord k e due id = linked :=
          triggerRecord_eq k e due id (by cases e.action <;> rfl)
        have admitted := State.triggerTurn_admits acts free (mt fullIs.mp room)
        simp only [triggers] at admitted
        rw [← isLinked]
        refine lone admitted fun m other => ?_
        show (if e.oneShot then s.cap.triggers.set k { e with enabled := false } else s.cap.triggers)[m] = _
        split
        · exact Vector.getElem_set_ne _ _ fun index => other (Fin.ext index.symm)
        · rfl
      · refine lone (State.triggerTurn_missed acts (missed.imp_right fullIs.mpr)) fun m _ => ?_
        have capKept : (State.raise { s with cap := cap } .triggerMissed s.lineTime).cap = cap :=
          (State.raise_noticesOnly { s with cap := cap } .triggerMissed s.lineTime).cap
        show (State.raise { s with cap := cap } .triggerMissed s.lineTime).cap.triggers[m] = _
        simp only [capKept, triggers]

end Sys2Proof.Machine
end

section
/-! What a transmission begun sends (O60). -/

namespace Sys2Proof.Machine

/-! ## Capture records and notices in octets (section 11.4) -/

theorem octetsOf_two (v : BitVec 16) : octetsOf 2 v = [(v >>> 8).setWidth 8, v.setWidth 8] := by
  have low : v >>> 0 = v := BitVec.ushiftRight_zero v
  show [(v >>> 8).setWidth 8, (v >>> 0).setWidth 8] = _
  rw [low]

theorem captureInfo_eq : ∀ (line : Fin 8) (edge : Edge) (sync : SyncState) (gap : Bool),
    BitVec.ofNat 8 line.val ||| (edge.code <<< 3) ||| (sync.code <<< 4) ||| (if gap then 0x40 else 0) =
      BitVec.ofNat 8 (line.val + (if edge = .falling then 8 else 0) + 16 * sync.code.toNat + (if gap then 64 else 0)) := by
  intro line edge sync gap
  revert line
  cases edge <;> cases sync <;> cases gap <;> decide

theorem CaptureRecord.octets_eq (r : CaptureRecord) {sync : Nat} (is : sync = r.sync.code.toNat) : r.octets =
    octetsHigh 2 r.seq.toNat ++
    [BitVec.ofNat 8 (r.line.val + (if r.edge = .falling then 8 else 0) + 16 * sync + (if r.gap then 64 else 0))] ++
    octetsHigh 6 r.time.toNat := by
  rw [CaptureRecord.octets, captureInfo_eq, octetsOf_toNat, octetsOf_toNat, is]

theorem noticeMark_eq (overflow : Bool) :
    (if overflow then 0x80 else 0 : Octet) = BitVec.ofNat 8 (if overflow then 128 else 0) ∧
      (if overflow then 0x80 else 0 : Octet) ||| 1 = BitVec.ofNat 8 ((if overflow then 128 else 0) + 1) := by
  cases overflow <;> decide

theorem Origin.octets_trigger (k : Fin 8) : (Origin.trigger k).octets = [BitVec.ofNat 8 (128 + k.val), 0xFF] := by
  rw [Origin.octets, BitVec.ofNat_add]
  rfl

theorem Notice.octets_completion {n : Notice} {tag : Half} {ch : Fin 16} {o : ActionOutcome} {origin : Origin}
    {fired : Nat} {time : Ticks} {code : Octet} {sender : List Octet} (body : n.body = .completion tag ch o origin fired time)
    (isCode : o.code = code) (isOrigin : origin.octets = sender) : n.octets =
      [BitVec.ofNat 8 (if n.overflow then 128 else 0)] ++ octetsHigh 2 tag.toNat ++ [BitVec.ofNat 8 ch.val, code] ++
        sender ++ octetsHigh 2 fired ++ octetsHigh 6 time.toNat := by
  rw [Notice.octets, body]
  simp only [isCode, isOrigin, (noticeMark_eq n.overflow).1, octetsOf_toNat, octetsOfNat_eq]

theorem Notice.octets_fault {n : Notice} {k : FaultKind} {time : Ticks} {code : Octet} (body : n.body = .fault k time)
    (isCode : BitVec.ofNat 8 k.code.val = code) : n.octets =
      [BitVec.ofNat 8 ((if n.overflow then 128 else 0) + 1), 0, 0, 0, code, 0, 0, 0, 0] ++ octetsHigh 6 time.toNat := by
  rw [Notice.octets, body]
  simp only [isCode, (noticeMark_eq n.overflow).2, octetsOf_toNat]

/-! ## Forwarded frames (R43, R44) -/

theorem State.startForward_cons {s : State} {f : Forwarded} {rest : List Forwarded} (forward : s.port.forward = f :: rest)
    (credit : Nat) : s.startForward credit = s.setPort { s.port with
      credit := credit, tx := .sendingForward (s.outgoing f).withCrc (s.sentAt (s.outgoing f).withCrc) } := by
  rw [State.startForward, forward]

theorem State.outgoing_held {s : State} {f : Forwarded}
    (other : ¬ (f.frame.kind = 0x01 ∧ f.frame.dest = 0xFF ∧ f.frame.payload.length = 11)) : s.outgoing f = f.frame :=
  if_neg other

theorem State.outgoing_sync {s : State} {f : Forwarded} {master : BitVec 48} {correction : BitVec 32} {syncSeq : Octet}
    (kind : f.frame.kind = 0x01) (dest : f.frame.dest = 0xFF)
    (payload : f.frame.payload = syncPayload master correction syncSeq) : s.outgoing f = { f.frame with
      payload := syncPayload master
        (correction + BitVec.ofNat 32 (s.residence f).toNat + BitVec.ofNat 32 s.cfg.linkDelay) syncSeq } := by
  refine (if_pos ⟨kind, dest, by rw [payload, length_syncPayload]⟩).trans ?_
  dsimp only
  rw [payload, correctionOf_syncPayload, ← BitVec.ofNat_toNat]
  rfl

/-! ## Descriptors (R42) -/

theorem State.startReply_cons {s t : State} {d : ReplyDesc} {rest : List ReplyDesc} {f : Frame}
    (replies : s.port.replies = d :: rest) (is : (s.setPort { s.port with replies := rest }).assemble d = (f, t)) :
    s.startReply = t.setPort { t.port with
      credit := 0, tx := .sendingReply f.withCrc (t.sentAt f.withCrc) d.restartMark } := by
  rw [State.startReply, replies]
  dsimp only
  rw [is]

section
variable {s : State} {d : ReplyDesc}

theorem State.assemble_fixed {octets : List Octet} (body : d.body = .fixed octets) :
    s.assemble d = (s.originated d.kind d.dest d.src d.seq octets, s) := by
  rw [State.assemble, body]

theorem State.assemble_read {r : MgmtResult} {o i : Octet} (body : d.body = .read r o i) : s.assemble d =
    (s.originated d.kind d.dest d.src d.seq (r.code :: (if r = .ok then s.objectValue o i else [])), s) := by
  rw [State.assemble, body]

theorem State.assemble_report {m : Octet} (body : d.body = .report m) : s.assemble d =
    (s.originated d.kind d.dest d.src d.seq (s.cap.reportBody m), s.setCap (s.cap.advanceHighest m)) := by
  rw [State.assemble, body]

theorem State.assemble_noticeBody (body : d.body = .notice) : s.assemble d =
    (s.originated d.kind s.cfg.reportAddress s.firstAddress s.port.noticeSeq s.noticeBody, s.noticesTaken) := by
  rw [State.assemble, body]

end

/-! ## HighestReported (R150) -/

section
variable {k : CaptureUnit} {m : Octet}

theorem CaptureUnit.advanceHighest_nothing (empty : k.ring.take m.toNat = []) : k.advanceHighest m = k := by
  rw [CaptureUnit.advanceHighest, CaptureUnit.reported, empty]
  rfl

/-- The newest record carried lies in the reported span already, or becomes HighestReported. -/
theorem CaptureUnit.advanceHighest_newest {front : List CaptureRecord} {newest : CaptureRecord}
    (carried : k.ring.take m.toNat = front ++ [newest]) :
    (k.InReportedSpan newest.seq → k.advanceHighest m = k) ∧
      (¬ k.InReportedSpan newest.seq → k.advanceHighest m = { k with highest := some newest.seq }) := by
  have last : (k.reported m).getLast? = some newest := by
    rw [CaptureUnit.reported, carried, List.getLast?_append]
    rfl
  rw [k.inReportedSpan_iff, CaptureUnit.advanceHighest, last]
  dsimp only
  split
  · rename_i old new isOld isNew
    refine ⟨fun ⟨top, p, isTop, isP, below⟩ => ?_, fun outside => ?_⟩
    · rw [isOld] at isTop
      rw [isNew] at isP
      cases isTop
      cases isP
      exact if_neg (by omega)
    · exact if_pos (Nat.lt_of_not_le fun below => outside ⟨old, new, isOld, isNew, below⟩)
  · rename_i unordered
    exact ⟨fun ⟨top, p, isTop, isP, _⟩ => absurd isP (unordered top p isTop), fun _ => rfl⟩

end

theorem State.firstAddress_eq {s : State} {i : Fin 8} {e : Station} (held : s.addr[i] = some e)
    (first : ∀ j < i, s.addr[j] = none) : s.firstAddress = e.address := by
  have found : s.addr.toList.findSome? id = some e := by
    rw [List.findSome?_eq_some_iff]
    refine ⟨s.addr.toList.take i.val, some e, s.addr.toList.drop (i.val + 1), ?_, rfl, fun x hx => ?_⟩
    · have bound : i.val < s.addr.toList.length := by simp
      rw [← held]
      have := List.take_append_drop i.val s.addr.toList
      rw [List.drop_eq_getElem_cons bound] at this
      exact this.symm
    · obtain ⟨j, hj, rfl⟩ := List.getElem_of_mem hx
      rw [List.length_take, Nat.lt_min] at hj
      rw [List.getElem_take]
      exact first ⟨j, by have := i.isLt; omega⟩ hj.1
  rw [State.firstAddress, found]

/-- Settles O60: the forwarded frame, and the four kinds of body. -/
theorem transmitStartFormsTheFrame : Obligations.TransmitStartFormsTheFrame := by
  intro s wire done high recordOctets noticeOctets
  have sent (f : Frame) :
      f.withCrc = wire [f.dest, f.src, f.kind, f.seq, f.hops, f.mark] f.payload := by
    rw [Frame.withCrc, octetsOf_two]
    rfl
  have recorded (r : CaptureRecord) : r.octets = recordOctets r := r.octets_eq (by cases r.sync <;> rfl)
  have noticed (n : Notice) : n.octets = noticeOctets n := by
    obtain ⟨overflow, body⟩ := n
    cases body with
    | completion tag ch o origin fired time =>
      refine Notice.octets_completion rfl (by cases o <;> rfl) ?_
      cases origin with
      | line q => rfl
      | trigger k => exact Origin.octets_trigger k
    | fault k time => exact Notice.octets_fault rfl (by cases k <;> rfl)
  refine ⟨?_, ?_⟩
  · intro f rest credit forward sends
    have starts := State.startForward_cons forward credit
    refine ⟨fun other => ?_, fun master correction syncSeq kind dest payload => ?_⟩
    · rw [State.outgoing_held other, sent] at starts
      exact starts
    · rw [State.outgoing_sync kind dest payload, sent] at starts
      exact starts
  · intro d rest replies begun own
    have starts {f : Frame} {t : State} (is : (s.setPort { s.port with replies := rest }).assemble d = (f, t)) :
        s.startReply = t.setPort { t.port with
          credit := 0
          tx := .sendingReply (wire [f.dest, f.src, f.kind, f.seq, f.hops, f.mark] f.payload)
            (t.sentAt (wire [f.dest, f.src, f.kind, f.seq, f.hops, f.mark] f.payload)) d.restartMark } := by
      rw [← sent]
      exact State.startReply_cons replies is
    refine ⟨fun octets kind body => ?_, fun o i kind body => ?_, fun o i kind body => ?_, fun m kind body => ?_,
      fun i e kind body held first => ?_⟩
    · have form := starts (State.assemble_fixed body)
      rw [kind] at form
      exact form
    · have form := starts (State.assemble_read body)
      rw [kind] at form
      exact form
    · have form := starts (State.assemble_read body)
      rw [kind] at form
      exact form
    · have form := starts (State.assemble_report body)
      rw [kind] at form
      have advanced : s.cap.advanceHighest m = { s.cap with highest := (s.cap.advanceHighest m).highest } :=
        s.cap.advanceHighest_eq m
      have body : s.cap.reportBody m =
          [BitVec.ofNat 8 (min m.toNat s.cap.ring.length), BitVec.ofNat 8 s.cap.ring.length] ++
            (s.cap.ring.take m.toNat).flatMap recordOctets := by
        rw [CaptureUnit.reportBody, CaptureUnit.reported, List.length_take, funext recorded]
      refine ⟨(s.cap.advanceHighest m).highest, ?_, fun empty => ?_, fun front newest carried =>
        ⟨fun inside => ?_, fun outside => ?_⟩⟩
      · rw [← advanced, ← body]
        exact form
      · rw [CaptureUnit.advanceHighest_nothing empty]
      · rw [(CaptureUnit.advanceHighest_newest carried).1 inside]
      · rw [(CaptureUnit.advanceHighest_newest carried).2 outside]
    · have form := starts (State.assemble_noticeBody body)
      have address : (s.setPort { s.port with replies := rest }).firstAddress = e.address :=
        State.firstAddress_eq (s := s.setPort { s.port with replies := rest }) held first
      have octets : (s.setPort { s.port with replies := rest }).noticeBody =
          BitVec.ofNat 8 (min 12 s.notices.queue.length) :: (s.notices.queue.take 12).flatMap noticeOctets := by
        rw [State.noticeBody, List.length_take, funext noticed]
        rfl
      rw [kind, address, octets] at form
      exact form

end Sys2Proof.Machine
end
